-- ==== Sys2Proof/Word.lean ====
section
/-!
DEFINITION. The data types the spec computes with: bytes, 16-bit words, binary64 patterns, the
six-byte frame, the opaque handle and the field code of a checksum error.
-/

namespace Sys2Proof

/-- A byte: 8 bits, unsigned, bit 7 the most significant (R6). -/
abbrev Byte := BitVec 8

/-- A raw word: 16 bits, unsigned (R6, R155). -/
abbrev Word := BitVec 16

/-- A floating value as its 64 bits: sign, 11 bits of biased exponent, 52 bits of fraction (R102). -/
abbrev F64 := BitVec 64

/-- A bus handle. The block stores it and passes it back and never looks inside (R23).
DESIGN CHOICE (log entry 6): a number names it. -/
structure Handle where
  id : Nat
  deriving DecidableEq, Repr, Inhabited

/-- The six bytes of a response frame, by name, in offset order 0 to 5 (R62). -/
structure RawFrame where
  tHi : Byte
  tLo : Byte
  tCrc : Byte
  hHi : Byte
  hLo : Byte
  hCrc : Byte
  deriving DecidableEq, Repr, Inhabited

/-- Which word of a frame failed its checksum (R32, R100). -/
inductive ErrField where
  | temperature
  | humidity
  deriving DecidableEq, Repr, Inhabited

end Sys2Proof
end

