-- ==== Sys2Proof/Config.lean ====
section
/-!
DEFINITION. What one machine fixes: the parameters of R5 in one record (as U14 of
93_implementation_defined.md asks), and the free values, which have no body and which nothing can
evaluate.
-/

namespace Sys2Proof

/-- The parameters of R5 that carry a number. -/
structure Params where
  /-- CRC polynomial byte `POLY`. -/
  poly : Byte
  /-- CRC initial value `INIT`. -/
  init : Byte
  /-- `FRAME_LEN`: the bytes a read asks for. -/
  frameLen : Byte
  /-- `SETTLE_MIN` in microseconds (log entry 7): a lower bound. -/
  settleMin : Nat
  /-- `DEFAULT_ADDR`. -/
  defaultAddr : Byte
  /-- `DEFAULT_MODE`. -/
  defaultMode : Byte
  /-- The device command bytes of R92, in the table's order. -/
  softReset : Byte
  measHigh : Byte
  measMed : Byte
  measLow : Byte
  heatHigh1s : Byte
  heatHigh100ms : Byte
  heatMed1s : Byte
  heatMed100ms : Byte
  heatLow1s : Byte
  heatLow100ms : Byte
  /-- `T_OFFSET`, `T_SPAN`, `H_SPAN`, `DIVISOR` of the two conversions (R156, R157). -/
  tOffset : Int
  tSpan : Int
  hSpan : Int
  divisor : Int
  deriving DecidableEq, Repr

namespace Config

/-- The values R5 gives; the final exclusive-or is absent, so it has no entry. -/
def params : Params where
  poly := 0x31
  init := 0xFF
  frameLen := 6
  settleMin := 10000
  defaultAddr := 0x44
  defaultMode := 0xFD
  softReset := 0x94
  measHigh := 0xFD
  measMed := 0xF6
  measLow := 0xE0
  heatHigh1s := 0x39
  heatHigh100ms := 0x3A
  heatMed1s := 0x32
  heatMed100ms := 0x33
  heatLow1s := 0x2F
  heatLow100ms := 0x30
  tOffset := -45
  tSpan := 175
  hSpan := 100
  divisor := 65535

/-- Free value: `CFG_BUS` after block reset (R24, R36: unspecified; log entry 3). -/
opaque resetCfgBus : Byte

/-- Free values, one per draw: what an unspecified register holds (R27, R28, R29, R32; log entry 4). -/
opaque freeCrcAcc : Nat → Byte
opaque freeFrame : Nat → RawFrame
opaque freeFrameCnt : Nat → Byte
opaque freeRawT : Nat → Word
opaque freeRawH : Nat → Word
opaque freeErrField : Nat → ErrField
opaque freeErrExpected : Nat → Byte
opaque freeErrActual : Nat → Byte
opaque freeErrXport : Nat → Bool

/-- Free value: a floating operation on an operand that is not finite, or a division by zero; R158
says none occurs and gives no result (log entry 10). -/
opaque unstatedF64 : F64 → F64 → F64

end Config

end Sys2Proof
end

