-- ==== Sys2Proof/Machine/Crc.lean ====
section
/-!
DEFINITION. The CRC engine as pure functions (40_crc_engine.md): the table, the fold, the validator.
-/

namespace Sys2Proof.Machine

/-- One iteration of R120: the high bit is tested before the shift of the same iteration. -/
def crcShift (p v : Byte) : Byte :=
  if v.getLsbD 7 then (v <<< 1) ^^^ p else v <<< 1

/-- `crc8_byte(i, p)` of R120: eight iterations. -/
def crc8Byte (i p : Byte) : Byte := (crcShift p)^[8] i

/-- The 256 entries of `TABLE` (R26). -/
abbrev CrcTable := Vector Byte 256

/-- `BUILD_TABLE(p)` of R120: entry `i` is `crc8_byte(i, p)`. -/
def buildTable (p : Byte) : CrcTable :=
  ⟨⟨(List.range 256).map fun i => crc8Byte (BitVec.ofNat 8 i) p⟩, by simp⟩

/-- `TABLE[b]`: a byte is always inside the table (R123). -/
def CrcTable.look (t : CrcTable) (b : Byte) : Byte := Vector.get t b.toFin

/-- `CHECKSUM(data, initial)` of R124 over a table, index 0 first, no final exclusive-or. -/
def checksum (t : CrcTable) (data : List Byte) (initial : Byte) : Byte :=
  data.foldl (fun acc b => CrcTable.look t (acc ^^^ b)) initial

/-- The answer of `VALIDATE` (R127): `expected` is the computed checksum, `actual` the embedded one. -/
inductive Verdict where
  | pass
  | mismatch (expected actual : Byte)
  deriving DecidableEq, Repr

/-- `VALIDATE(hi, lo, emb)` of R127. -/
def validate (t : CrcTable) (hi lo emb : Byte) : Verdict :=
  if checksum t [hi, lo] Config.params.init = emb then .pass
  else .mismatch (checksum t [hi, lo] Config.params.init) emb

end Sys2Proof.Machine
end

