-- ==== Sys2Proof/Machine/Float.lean ====
section
/-!
DEFINITION. Binary64 arithmetic (R102, R158): each operation is the exact rational result followed
by one rounding, to nearest, ties to even. The layout and the rounding are IEEE 754's (log entry 10).

A finite value is `± mag · 2^(-1074)` for a natural number `mag`.
-/

namespace Sys2Proof.Machine

/-- Bit 63, the sign (R102). -/
def F64.sign (a : F64) : Bool := a.getLsbD 63

/-- Bits 62 to 52, the biased exponent (R102). -/
def F64.expo (a : F64) : Nat := a.toNat / 2 ^ 52 % 2048

/-- Bits 51 to 0, the fraction (R102). -/
def F64.frac (a : F64) : Nat := a.toNat % 2 ^ 52

/-- Neither an infinity nor a NaN. -/
def F64.isFinite (a : F64) : Bool := F64.expo a != 2047

/-- The magnitude of a finite value in units of 2^(-1074). -/
def F64.mag (a : F64) : Nat :=
  if F64.expo a = 0 then F64.frac a else (2 ^ 52 + F64.frac a) * 2 ^ (F64.expo a - 1)

/-- A finite value in units of 2^(-1074), with its sign. -/
def F64.scaled (a : F64) : Int := if F64.sign a then -(F64.mag a : Int) else F64.mag a

/-- The exact rational a finite value stands for. -/
def F64.toRat (a : F64) : ℚ := mkRat (F64.scaled a) (2 ^ 1074)

/-- `n / d` rounded to the nearest natural number, ties to even. -/
def roundEven (n d : Nat) : Nat :=
  if 2 * (n % d) < d then n / d
  else if d < 2 * (n % d) then n / d + 1
  else n / d + n / d % 2

/-- How many low bits the rounding of a magnitude `n / d` drops, so that 53 stay. -/
def roundShift (n d : Nat) : Nat := (n / d).log2 - 52

/-- Bits 62 to 0 of the value nearest to the magnitude `n / d` (in units of 2^(-1074)), ties to
even; beyond the largest finite value, those of infinity. A carry out of the fraction moves into
the exponent by itself. -/
def roundMag (n d : Nat) : Nat :=
  min (roundShift n d * 2 ^ 52 + roundEven n (d * 2 ^ roundShift n d)) (2047 * 2 ^ 52)

/-- A sign and a magnitude's bits as one pattern. -/
def F64.pack (neg : Bool) (bits : Nat) : F64 := BitVec.ofNat 64 ((if neg then 2 ^ 63 else 0) + bits)

/-- `F64(n)` of R7. -/
def F64.ofInt (z : Int) : F64 := F64.pack (z < 0) (roundMag (z.natAbs * 2 ^ 1074) 1)

/-- `fdiv` of R7. -/
def fdiv (a b : F64) : F64 :=
  if F64.isFinite a && F64.isFinite b && F64.mag b != 0 then
    F64.pack (F64.sign a != F64.sign b) (roundMag (F64.mag a * 2 ^ 1074) (F64.mag b))
  else Config.unstatedF64 a b

/-- `fmul` of R7. -/
def fmul (a b : F64) : F64 :=
  if F64.isFinite a && F64.isFinite b then
    F64.pack (F64.sign a != F64.sign b) (roundMag (F64.mag a * F64.mag b) (2 ^ 1074))
  else Config.unstatedF64 a b

/-- The sign of an exact sum: of a zero sum, minus only when both operands are minus zero. -/
def sumSign (a b : F64) : Bool :=
  if F64.scaled a + F64.scaled b = 0 then F64.sign a && F64.sign b
  else F64.scaled a + F64.scaled b < 0

/-- `fadd` of R7. -/
def fadd (a b : F64) : F64 :=
  if F64.isFinite a && F64.isFinite b then
    F64.pack (sumSign a b) (roundMag (F64.scaled a + F64.scaled b).natAbs 1)
  else Config.unstatedF64 a b

end Sys2Proof.Machine
end

