-- ==== Sys2Proof/Machine/Operands.lean ====
section
/-!
DEFINITION. The operand forms: which mode bytes are legal, how a word is assembled from two bytes,
how a raw word becomes a floating value, and the decoder as a pure function of six bytes (R150).
-/

namespace Sys2Proof.Machine

/-- The nine measurement commands, the legal values of `MODE` (R25, R92). -/
def measurementModes : List Byte :=
  [ Config.params.measHigh, Config.params.measMed, Config.params.measLow,
    Config.params.heatHigh1s, Config.params.heatHigh100ms,
    Config.params.heatMed1s, Config.params.heatMed100ms,
    Config.params.heatLow1s, Config.params.heatLow100ms ]

/-- May this byte stand in `MODE` (R25, R98 b)? -/
def isMeasurementMode (b : Byte) : Bool := measurementModes.contains b

/-- `WORD16(hi, lo)` of R155: the first byte is the high one. -/
def word16 (hi lo : Byte) : Word := hi ++ lo

/-- `CONV_T` of R156, in the operation order of R158. -/
def convT (raw : Word) : F64 :=
  fadd (F64.ofInt Config.params.tOffset)
    (fmul (F64.ofInt Config.params.tSpan)
      (fdiv (F64.ofInt raw.toNat) (F64.ofInt Config.params.divisor)))

/-- `CONV_H` of R157. -/
def convH (raw : Word) : F64 :=
  fmul (F64.ofInt Config.params.hSpan)
    (fdiv (F64.ofInt raw.toNat) (F64.ofInt Config.params.divisor))

/-- The result of the pure decoder (R150, R256): a measurement or a mismatch, nothing else. -/
inductive DecodeResult where
  | measurement (temperature humidity : F64)
  | checksumMismatch (field : ErrField) (expected actual : Byte)
  deriving DecidableEq, Repr

/-- `DECODE(frame)` of R150: temperature is validated first, and neither word is converted before
both have passed (R154). -/
def decodeFrame (t : CrcTable) (f : RawFrame) : DecodeResult :=
  match validate t f.tHi f.tLo f.tCrc with
  | .mismatch e a => .checksumMismatch .temperature e a
  | .pass =>
    match validate t f.hHi f.hLo f.hCrc with
    | .mismatch e a => .checksumMismatch .humidity e a
    | .pass => .measurement (convT (word16 f.tHi f.tLo)) (convH (word16 f.hHi f.hLo))

end Sys2Proof.Machine
end

