-- ==== Sys2Proof/Syntax.lean ====
section
/-!
DEFINITION. The instructions: one constructor for each of the 17 rows of the opcode table (R92, R96),
and the assembler lines of R103 with their optional operands.
-/

namespace Sys2Proof

/-- The seven host operations with their operands (R95 to R97) and the ten device commands, which
carry none (R93: the byte has no fields). -/
inductive Instr where
  /-- `OPEN bus addr mode`. -/
  | hostOpen (bus addr mode : Byte)
  /-- `SRESET`. -/
  | hostSreset
  /-- `READ`. -/
  | hostRead
  /-- `SETMODE imm8`. -/
  | hostSetmode (imm8 : Byte)
  /-- `CLOSE`. -/
  | hostClose
  /-- `CRC8 d0 … d(n-1)`; `n` is the length of the list. -/
  | hostCrc8 (data : List Byte)
  /-- `DECODE f0 … f5`. -/
  | hostDecode (f0 f1 f2 f3 f4 f5 : Byte)
  /-- `CMD_SOFT_RESET`, issued by `SRESET`. -/
  | cmdSoftReset
  /-- `CMD_MEAS_HIGH`; this and the next eight are issued by `READ` from `MODE`. -/
  | cmdMeasHigh
  | cmdMeasMed
  | cmdMeasLow
  | cmdHeatHigh1s
  | cmdHeatHigh100ms
  | cmdHeatMed1s
  | cmdHeatMed100ms
  | cmdHeatLow1s
  | cmdHeatLow100ms
  deriving DecidableEq, Repr, Inhabited

/-- Is it one of the seven operations a host can present (R96)? -/
def Instr.isHost : Instr → Bool
  | .hostOpen _ _ _ | .hostSreset | .hostRead | .hostSetmode _ | .hostClose | .hostCrc8 _
  | .hostDecode _ _ _ _ _ _ => true
  | .cmdSoftReset | .cmdMeasHigh | .cmdMeasMed | .cmdMeasLow | .cmdHeatHigh1s | .cmdHeatHigh100ms
  | .cmdHeatMed1s | .cmdHeatMed100ms | .cmdHeatLow1s | .cmdHeatLow100ms => false

/-- Is it one of the nine commands that trigger a measurement (R92, R230)? -/
def Instr.isMeasurement : Instr → Bool
  | .cmdMeasHigh | .cmdMeasMed | .cmdMeasLow | .cmdHeatHigh1s | .cmdHeatHigh100ms
  | .cmdHeatMed1s | .cmdHeatMed100ms | .cmdHeatLow1s | .cmdHeatLow100ms => true
  | .hostOpen _ _ _ | .hostSreset | .hostRead | .hostSetmode _ | .hostClose | .hostCrc8 _
  | .hostDecode _ _ _ _ _ _ | .cmdSoftReset => false

/-- A line of the assembler syntax of R103: `OPEN` may leave out its last one or two operands. -/
inductive AsmLine where
  | lineOpen (bus : Byte) (rest : Option (Byte × Option Byte))
  | lineSreset
  | lineRead
  | lineSetmode (mode : Byte)
  | lineClose
  | lineCrc8 (data : List Byte)
  | lineDecode (f0 f1 f2 f3 f4 f5 : Byte)
  deriving DecidableEq, Repr

end Sys2Proof
end

