-- ==== Sys2Proof/WellFormed.lean ====
section
/-!
DEFINITION. Which instruction terms an encoding exists for. The one check: the byte string of `CRC8`
has at most 255 bytes, since its length is carried in one byte (R95, R126).
-/

namespace Sys2Proof

/-- The terms that format `HN` can carry; every other format takes every operand value (R97). -/
def Instr.wellFormed : Instr → Bool
  | .hostCrc8 data => data.length ≤ 255
  | .hostOpen _ _ _ | .hostSreset | .hostRead | .hostSetmode _ | .hostClose
  | .hostDecode _ _ _ _ _ _ | .cmdSoftReset | .cmdMeasHigh | .cmdMeasMed | .cmdMeasLow
  | .cmdHeatHigh1s | .cmdHeatHigh100ms | .cmdHeatMed1s | .cmdHeatMed100ms | .cmdHeatLow1s
  | .cmdHeatLow100ms => true

end Sys2Proof
end

