-- ==== Sys2Proof/Decode.lean ====
section
/-!
DEFINITION. The decoders of the two instruction spaces (host requests, R95 to R98; device command
bytes, R91 to R93), total on any bytes, and after them the encoder, the assembler of R103 and the
48-bit form of a response frame (R94).
-/

namespace Sys2Proof

/-- The operation numbers of R96. -/
def opOpen : Byte := 0x01
def opSreset : Byte := 0x02
def opRead : Byte := 0x03
def opSetmode : Byte := 0x04
def opClose : Byte := 0x05
def opCrc8 : Byte := 0x06
def opDecode : Byte := 0x07

/-- What the bytes at the host port amount to. -/
inductive HostRequest where
  /-- A whole request, and the bytes after it. -/
  | instr (i : Instr) (rest : List Byte)
  /-- Rejected by name: byte 0 is a reserved opcode (R98 a), and the bytes after it. -/
  | reserved (op : Byte) (rest : List Byte)
  /-- Not yet a whole request: the length is known from byte 0 (for `HN`, byte 1), R95. -/
  | incomplete
  deriving DecidableEq, Repr

/-- Operands of format `HO` (R97). -/
def decodeOpen : List Byte → HostRequest
  | bus :: addr :: mode :: rest => .instr (.hostOpen bus addr mode) rest
  | _ => .incomplete

/-- Operand of format `H1` (R97). -/
def decodeSetmode : List Byte → HostRequest
  | imm8 :: rest => .instr (.hostSetmode imm8) rest
  | _ => .incomplete

/-- Operands of format `HN`: the count, then that many bytes, the first folded first (R97). -/
def decodeCrc8 : List Byte → HostRequest
  | n :: rest =>
    if rest.length < n.toNat then .incomplete
    else .instr (.hostCrc8 (rest.take n.toNat)) (rest.drop n.toNat)
  | _ => .incomplete

/-- Operands of format `HF` (R97). -/
def decodeDecode : List Byte → HostRequest
  | f0 :: f1 :: f2 :: f3 :: f4 :: f5 :: rest => .instr (.hostDecode f0 f1 f2 f3 f4 f5) rest
  | _ => .incomplete

/-- The host request at the front of a byte string (R95, R96, R98). -/
def decodeHost : List Byte → HostRequest
  | [] => .incomplete
  | op :: rest =>
    if op = opOpen then decodeOpen rest
    else if op = opSreset then .instr .hostSreset rest
    else if op = opRead then .instr .hostRead rest
    else if op = opSetmode then decodeSetmode rest
    else if op = opClose then .instr .hostClose rest
    else if op = opCrc8 then decodeCrc8 rest
    else if op = opDecode then decodeDecode rest
    else .reserved op rest

/-- The command map of R92: the whole byte is compared with the ten values (R93). -/
def cmdRows : List (Byte × Instr) :=
  [ (Config.params.softReset, .cmdSoftReset),
    (Config.params.measHigh, .cmdMeasHigh),
    (Config.params.measMed, .cmdMeasMed),
    (Config.params.measLow, .cmdMeasLow),
    (Config.params.heatHigh1s, .cmdHeatHigh1s),
    (Config.params.heatHigh100ms, .cmdHeatHigh100ms),
    (Config.params.heatMed1s, .cmdHeatMed1s),
    (Config.params.heatMed100ms, .cmdHeatMed100ms),
    (Config.params.heatLow1s, .cmdHeatLow1s),
    (Config.params.heatLow100ms, .cmdHeatLow100ms) ]

/-- The device command a byte stands for; `none` for the other 246 values (R241). -/
def decodeCmd8 (b : Byte) : Option Instr :=
  (cmdRows.find? (fun row => row.1 == b)).map (fun row => row.2)

/-- The bytes of an instruction: a request in its format of R95, or the one byte of `CMD8` (R91). -/
def encode : Instr → List Byte
  | .hostOpen bus addr mode => [opOpen, bus, addr, mode]
  | .hostSreset => [opSreset]
  | .hostRead => [opRead]
  | .hostSetmode imm8 => [opSetmode, imm8]
  | .hostClose => [opClose]
  | .hostCrc8 data => opCrc8 :: BitVec.ofNat 8 data.length :: data
  | .hostDecode f0 f1 f2 f3 f4 f5 => [opDecode, f0, f1, f2, f3, f4, f5]
  | .cmdSoftReset => [Config.params.softReset]
  | .cmdMeasHigh => [Config.params.measHigh]
  | .cmdMeasMed => [Config.params.measMed]
  | .cmdMeasLow => [Config.params.measLow]
  | .cmdHeatHigh1s => [Config.params.heatHigh1s]
  | .cmdHeatHigh100ms => [Config.params.heatHigh100ms]
  | .cmdHeatMed1s => [Config.params.heatMed1s]
  | .cmdHeatMed100ms => [Config.params.heatMed100ms]
  | .cmdHeatLow1s => [Config.params.heatLow1s]
  | .cmdHeatLow100ms => [Config.params.heatLow100ms]

/-- An assembler line as the instruction it stands for: absent operands of `OPEN` take the stated
defaults (R103, R104). -/
def AsmLine.toInstr : AsmLine → Instr
  | .lineOpen bus none => .hostOpen bus Config.params.defaultAddr Config.params.defaultMode
  | .lineOpen bus (some (addr, none)) => .hostOpen bus addr Config.params.defaultMode
  | .lineOpen bus (some (addr, some mode)) => .hostOpen bus addr mode
  | .lineSreset => .hostSreset
  | .lineRead => .hostRead
  | .lineSetmode mode => .hostSetmode mode
  | .lineClose => .hostClose
  | .lineCrc8 data => .hostCrc8 data
  | .lineDecode f0 f1 f2 f3 f4 f5 => .hostDecode f0 f1 f2 f3 f4 f5

/-- The bytes an assembler line assembles to (R103). -/
def AsmLine.assemble (l : AsmLine) : List Byte := encode l.toInstr

/-- A frame as one 48-bit value, byte 0 most significant (R94). -/
def rsp48 (f : RawFrame) : BitVec 48 :=
  f.tHi ++ f.tLo ++ f.tCrc ++ f.hHi ++ f.hLo ++ f.hCrc

/-- The frame of a 48-bit value (R94). -/
def ofRsp48 (v : BitVec 48) : RawFrame where
  tHi := v.extractLsb' 40 8
  tLo := v.extractLsb' 32 8
  tCrc := v.extractLsb' 24 8
  hHi := v.extractLsb' 16 8
  hLo := v.extractLsb' 8 8
  hCrc := v.extractLsb' 0 8

/-- The bytes of a sequence with a result that is exactly a frame, in offset order (R62, R63). -/
def frameOfBytes : List Byte → Option RawFrame
  | [b0, b1, b2, b3, b4, b5] => some ⟨b0, b1, b2, b3, b4, b5⟩
  | _ => none

/-- `k` bytes of the number `w`, least significant byte first: byte `j` is bits `8j+7 … 8j`. -/
def bytesOfNat : Nat → Nat → List Byte
  | 0, _ => []
  | k + 1, w => BitVec.ofNat 8 w :: bytesOfNat k (w / 256)

/-- The bytes of a table word: its `nbits` bits, then zeros up to the longest request, 257 bytes. -/
def tableBytes (nbits w : Nat) : List Byte := bytesOfNat 257 (w % 2 ^ nbits)

/-- The instruction a table word decodes to. The two spaces share no first byte: a host opcode is
read as a request, any other byte as a device command. -/
def decodeTableWord (nbits w : Nat) : Option Instr :=
  match decodeHost (tableBytes nbits w) with
  | .instr i _ => some i
  | .reserved op _ => decodeCmd8 op
  | .incomplete => none

end Sys2Proof
end

