-- ==== Sys2Proof/Machine/State.lean ====
section
/-!
DEFINITION. The state of the block: the fifteen elements of R20, the inputs that R34 says a step
takes from the host, the transport and time, and the model's own bookkeeping; the faults and
refusals; the state after block reset.
-/

namespace Sys2Proof.Machine

/-- `STATE` (R21). -/
inductive SessionState where
  | closed
  | opened
  | measuring
  deriving DecidableEq, Repr, Inhabited

/-- `PHASE` (R22). -/
inductive Phase where
  | idle
  | write
  | settle
  | read
  | decode
  deriving DecidableEq, Repr, Inhabited

/-- `STATUS` (R31, R99): `OK` or one of the five errors of R250. -/
inductive Status where
  | ok
  | openError
  | commandError
  | readLengthError
  | checksumMismatch
  | programmingError
  deriving DecidableEq, Repr, Inhabited

/-- A transport operation as it is issued (R67), and the settle wait between two of them (R200). -/
inductive XportCall where
  /-- `open(bus, addr)`. -/
  | openBus (bus addr : Byte)
  /-- `write_byte(h, b)`. -/
  | writeByte (h : Handle) (b : Byte)
  /-- The settle wait, with the time it took in microseconds (log entry 7). -/
  | wait (elapsed : Nat)
  /-- `read_bytes(h, n)`. -/
  | readBytes (h : Handle) (n : Byte)
  /-- `close(h)`. -/
  | closeBus (h : Handle)
  deriving DecidableEq, Repr, Inhabited

/-- The transport's answer to `read_bytes` (R67): `error`, or the bytes it returned; their number is
the count. -/
inductive ReadAnswer where
  | error
  | data (bytes : List Byte)
  deriving DecidableEq, Repr, Inhabited

/-- What stops the machine. The spec has no stop: its five errors are reported in `STATUS` and the
block goes on (R258, R259). Both faults stand in states that no run from reset reaches. -/
inductive Fault where
  /-- Raised by a meaning or a phase that must hand `HANDLE` to the transport when `HANDLE` is
  `none` outside `Closed` (R37 a excludes it). Safe: the machine stops. -/
  | noHandle
  /-- Raised by the fetch in phase `WRITE` when `MODE` is none of the ten command bytes (R241
  excludes it). Safe: the machine stops. -/
  | modeNotACommand
  deriving DecidableEq, Repr

/-- What has no meaning. -/
inductive Refusal where
  /-- An instruction whose arm has no meaning yet, by its mnemonic. Raised by `exec` alone; no arm
  raises it now. Safe. -/
  | notModelled (mnemonic : String)
  deriving DecidableEq, Repr

/-- The state. -/
structure State where
  /-- S0 `STATE` (R21). -/
  state : SessionState
  /-- S1 `PHASE` (R22). -/
  phase : Phase
  /-- S2 `HANDLE` (R23). -/
  handle : Option Handle
  /-- S3 `CFG_BUS` (R24). -/
  cfgBus : Byte
  /-- S4 `CFG_ADDR` (R24). -/
  cfgAddr : Byte
  /-- S5 `MODE` (R25). -/
  mode : Byte
  /-- S6 `TABLE` (R26). -/
  table : CrcTable
  /-- S7 `CRC_ACC` (R27). -/
  crcAcc : Byte
  /-- S8 `FRAME[0..5]` (R28). -/
  frame : RawFrame
  /-- S8 `FRAME_CNT` (R28). -/
  frameCnt : Byte
  /-- S9 `RAW_T` (R29). -/
  rawT : Word
  /-- S9 `RAW_H` (R29). -/
  rawH : Word
  /-- S10 `TEMP` (R30): no value while `VALID = 0`. -/
  temp : Option F64
  /-- S10 `HUM` (R30): no value while `VALID = 0`. -/
  hum : Option F64
  /-- S11 `VALID` (R30). -/
  valid : Bool
  /-- S12 `STATUS` (R31). -/
  status : Status
  /-- S13 `ERR_FIELD` (R32). -/
  errField : ErrField
  /-- S13 `ERR_EXPECTED` (R32). -/
  errExpected : Byte
  /-- S13 `ERR_ACTUAL` (R32). -/
  errActual : Byte
  /-- S13 `ERR_XPORT` (R32). -/
  errXport : Bool
  /-- S14 `SETTLE_T` (R33) in microseconds (log entry 7); `none` when the timer does not run. -/
  settleT : Option Nat
  /-- Input: request bytes presented by the host and not yet taken (R95). -/
  hostIn : List Byte
  /-- Input: the transport's next answers to `open`, a handle or `none` for `error` (R67). -/
  openAnswers : List (Option Handle)
  /-- Input: the transport's next statuses of `write_byte` (R67). -/
  writeAnswers : List Int
  /-- Input: the transport's next answers to `read_bytes` (R67). -/
  readAnswers : List ReadAnswer
  /-- Input: how many `close` calls the transport will still complete (R67, R197). -/
  closeAnswers : Nat
  /-- Input: amounts of time, in microseconds, that will pass in phase `SETTLE` (R33). -/
  timePassing : List Nat
  /-- Bookkeeping: the accepted operation whose transport call has no answer yet (R197, log entry 8). -/
  inFlight : Option Instr
  /-- Bookkeeping: the transport call that was issued and has no answer yet (log entry 8). -/
  outstanding : Option XportCall
  /-- Bookkeeping: the transport calls issued so far, oldest first (R69 c, R200; log entry 8). -/
  trace : List XportCall
  /-- Bookkeeping: the handles `open` has returned so far, oldest first (R199; log entry 8). -/
  granted : List Handle
  /-- Bookkeeping: which free value comes next (log entry 4). -/
  draw : Nat
  deriving DecidableEq, Repr

/-- Right after block reset (R36, R290, R291). What R36 leaves unspecified holds a free value (log
entry 3); nothing has been presented, answered or issued (log entry 2). -/
def State.reset : State where
  state := .closed
  phase := .idle
  handle := none
  cfgBus := Config.resetCfgBus
  cfgAddr := Config.params.defaultAddr
  mode := Config.params.defaultMode
  table := buildTable Config.params.poly
  crcAcc := Config.freeCrcAcc 0
  frame := Config.freeFrame 0
  frameCnt := Config.freeFrameCnt 0
  rawT := Config.freeRawT 0
  rawH := Config.freeRawH 0
  temp := none
  hum := none
  valid := false
  status := .ok
  errField := Config.freeErrField 0
  errExpected := Config.freeErrExpected 0
  errActual := Config.freeErrActual 0
  errXport := Config.freeErrXport 0
  settleT := none
  hostIn := []
  openAnswers := []
  writeAnswers := []
  readAnswers := []
  closeAnswers := 0
  timePassing := []
  inFlight := none
  outstanding := none
  trace := []
  granted := []
  draw := 1

/-- How an instruction or a step ends. -/
abbrev Out := Host.Outcome State Fault Refusal

end Sys2Proof.Machine
end

