-- ==== Sys2Proof/Machine/Flags.lean ====
section
/-!
DEFINITION. The result registers and flags: `STATUS` with its detail registers, `VALID` with `TEMP`
and `HUM`, and the scratch registers whose contents the spec leaves unspecified.
-/

namespace Sys2Proof.Machine

/-- What an outcome records in the detail registers (R32); `none` where it defines no content. -/
structure Detail where
  field : Option ErrField := none
  expected : Option Byte := none
  actual : Option Byte := none
  xport : Option Bool := none
  deriving DecidableEq, Repr

/-- The error an operation raises, with its detail (R250, R256). -/
inductive Raised where
  /-- R251. -/
  | openError
  /-- R252. -/
  | commandError
  /-- R253: the count the transport returned, and whether it answered `error` instead. -/
  | readLength (count : Nat) (xport : Bool)
  /-- R254. -/
  | checksum (field : ErrField) (expected actual : Byte)
  /-- R255. -/
  | programming
  deriving DecidableEq, Repr

/-- The `STATUS` value of an error (R99). -/
def Raised.status : Raised → Status
  | .openError => .openError
  | .commandError => .commandError
  | .readLength _ _ => .readLengthError
  | .checksum _ _ _ => .checksumMismatch
  | .programming => .programmingError

/-- The detail of an error (R32, R250). A count above 255 has no representation in `ERR_ACTUAL`
(R68, U12), so that register then holds a free value (log entry 9). -/
def Raised.detail : Raised → Detail
  | .openError | .commandError | .programming => {}
  | .readLength count xport =>
    { expected := some Config.params.frameLen
      actual := if count ≤ 255 then some (BitVec.ofNat 8 count) else none
      xport := some xport }
  | .checksum field expected actual =>
    { field := some field, expected := some expected, actual := some actual }

/-- Write `STATUS` and the detail registers (R31, R32, R258 b). A detail register the outcome does
not define becomes unspecified: a free value (log entry 4). -/
def writeOutcome (st : Status) (d : Detail) (s : State) : State :=
  { s with
    status := st
    errField := d.field.getD (Config.freeErrField s.draw)
    errExpected := d.expected.getD (Config.freeErrExpected s.draw)
    errActual := d.actual.getD (Config.freeErrActual s.draw)
    errXport := d.xport.getD (Config.freeErrXport s.draw)
    draw := s.draw + 1 }

/-- Clear `VALID`; `TEMP` and `HUM` then have no value (R30). -/
def clearMeasurement (s : State) : State :=
  { s with valid := false, temp := none, hum := none }

/-- Set `VALID` with the two results (R30, R160). -/
def setMeasurement (t h : F64) (s : State) : State :=
  { s with valid := true, temp := some t, hum := some h }

/-- `CRC_ACC` becomes unspecified: a free value (R27, log entry 4). -/
def loseCrcAcc (s : State) : State :=
  { s with crcAcc := Config.freeCrcAcc s.draw, draw := s.draw + 1 }

/-- The scratch registers become unspecified at the end of a `READ` or `DECODE`: free values (R27,
R28, R29, log entry 4). -/
def loseScratch (s : State) : State :=
  { s with
    crcAcc := Config.freeCrcAcc s.draw
    frame := Config.freeFrame s.draw
    frameCnt := Config.freeFrameCnt s.draw
    rawT := Config.freeRawT s.draw
    rawH := Config.freeRawH s.draw
    draw := s.draw + 1 }

end Sys2Proof.Machine
end

