-- ==== Sys2Proof/Machine/Ops.lean ====
section
/-!
DEFINITION. The named operations over the state: the four transport primitives (R7, R67), ending an
operation and raising an error (R258), the CRC micro-operations on `CRC_ACC` (R122 to R124, R127),
and the decode of the frame in `FRAME` (R160).
-/

namespace Sys2Proof.Machine

/-- What a transport primitive gives: an answer and the state after it, or a hold (R197). -/
inductive Xport (α : Type) where
  | held (s : State)
  | answered (a : α) (s : State)
  deriving DecidableEq, Repr

/-- Issue a transport call: it goes on the trace once, however long its answer takes (R65, R196). -/
def issue (c : XportCall) (s : State) : State :=
  { s with
    trace := if s.outstanding = some c then s.trace else s.trace ++ [c]
    outstanding := some c }

/-- The outstanding call has been answered. -/
def answered (s : State) : State := { s with outstanding := none }

/-- `XportOpen(bus, addr)`: a handle, or `none` for `error` (R67). -/
def xportOpen (bus addr : Byte) (s : State) : Xport (Option Handle) :=
  match s.openAnswers with
  | [] => .held (issue (.openBus bus addr) s)
  | a :: rest =>
    .answered a
      { answered (issue (.openBus bus addr) s) with
        openAnswers := rest
        granted := s.granted ++ a.toList }

/-- `MemWrite(h, 1, b)`: a status, 0 for accepted (R67). -/
def memWrite (h : Handle) (b : Byte) (s : State) : Xport Int :=
  match s.writeAnswers with
  | [] => .held (issue (.writeByte h b) s)
  | a :: rest => .answered a { answered (issue (.writeByte h b) s) with writeAnswers := rest }

/-- `MemRead(h, n)`: `error`, or the bytes returned (R67). -/
def memRead (h : Handle) (n : Byte) (s : State) : Xport ReadAnswer :=
  match s.readAnswers with
  | [] => .held (issue (.readBytes h n) s)
  | a :: rest => .answered a { answered (issue (.readBytes h n) s) with readAnswers := rest }

/-- `XportClose(h)`: yields nothing, but may go unanswered (R67, R197). -/
def xportClose (h : Handle) (s : State) : Xport Unit :=
  match s.closeAnswers with
  | 0 => .held (issue (.closeBus h) s)
  | n + 1 => .answered () { answered (issue (.closeBus h) s) with closeAnswers := n }

/-- The accepted operation `i` waits for its transport answer (R197). -/
def hold (i : Instr) (s : State) : State := { s with inFlight := some i }

/-- A host operation completes (R31): `STATUS` and its detail are written and nothing is in flight. -/
def finish (st : Status) (d : Detail) (s : State) : State :=
  { writeOutcome st d s with inFlight := none, outstanding := none }

/-- A host operation completes `OK`. -/
def finishOk (s : State) : State := finish .ok {} s

/-- Every way out of a `READ`: `STATE` becomes `Open` and `PHASE` becomes `IDLE` (R189). Outside a
`READ` it changes nothing that is not already so. -/
def leaveMeasuring (s : State) : State :=
  { s with
    state := if s.state = .measuring then .opened else s.state
    phase := .idle
    settleT := none }

/-- `raise E(info)` of R258: the one operation by which an error is taken. There is no handler,
vector or saved state and no return (R259). -/
def raise (e : Raised) (s : State) : State := finish e.status e.detail (leaveMeasuring s)

/-- `CRC_INIT(initial)` of R122. -/
def crcInit (initial : Byte) (s : State) : State := { s with crcAcc := initial }

/-- `CRC_STEP(b)` of R123. -/
def crcStep (b : Byte) (s : State) : State :=
  { s with crcAcc := CrcTable.look s.table (s.crcAcc ^^^ b) }

/-- `CHECKSUM(data, 0xFF)` through `CRC_ACC` (R124). -/
def crcFold (data : List Byte) (s : State) : State :=
  data.foldl (fun s b => crcStep b s) (crcInit Config.params.init s)

/-- Assemble both raw words of `FRAME` into `RAW_T` and `RAW_H` (R155). -/
def loadRaw (s : State) : State :=
  { s with
    rawT := word16 s.frame.tHi s.frame.tLo
    rawH := word16 s.frame.hHi s.frame.hLo }

/-- Both checksums passed: convert, write the results and complete (R156, R157, R160). -/
def reportMeasurement (s : State) : State :=
  finishOk (loseScratch (setMeasurement (convT s.rawT) (convH s.rawH) (leaveMeasuring s)))

/-- `VALIDATE_H` on `FRAME` (R153), reached only when the temperature has passed (R154). -/
def validateHumidity (s : State) : State :=
  if s.crcAcc = s.frame.hCrc then reportMeasurement (loadRaw s)
  else raise (.checksum .humidity s.crcAcc s.frame.hCrc) (loseScratch s)

/-- `VALIDATE_T` on `FRAME` (R152). -/
def validateTemperature (s : State) : State :=
  if s.crcAcc = s.frame.tCrc then validateHumidity (crcFold [s.frame.hHi, s.frame.hLo] s)
  else raise (.checksum .temperature s.crcAcc s.frame.tCrc) (loseScratch s)

/-- Decode the frame in `FRAME` and write the registers as R160 says. -/
def decodeAndReport (s : State) : State :=
  validateTemperature (crcFold [s.frame.tHi, s.frame.tLo] s)

end Sys2Proof.Machine
end

