-- ==== Sys2Proof/Machine/Engine.lean ====
section
/-!
DEFINITION. The two host operations that use no session: `CRC8` (R126) and `DECODE` (R161). Neither
issues a transport call. While a `READ` is in progress neither is accepted (R181).
-/

namespace Sys2Proof.Machine

/-- `CRC8` (R126): the result is left in `CRC_ACC`. -/
def execCrc8 (data : List Byte) (s : State) : Out :=
  if s.state = .measuring then .next s
  else .next (finishOk (crcFold data s))

/-- `DECODE` (R161). -/
def execDecode (f0 f1 f2 f3 f4 f5 : Byte) (s : State) : Out :=
  if s.state = .measuring then .next s
  else .next (decodeAndReport { clearMeasurement s with frame := ⟨f0, f1, f2, f3, f4, f5⟩ })

end Sys2Proof.Machine
end

