-- ==== Sys2Proof/Machine/Commands.lean ====
section
/-!
DEFINITION. The ten device commands (43_device_commands.md): each writes its one byte through
`HANDLE` and acts on the transport's status (R230).

A command byte that no `SRESET` or `READ` is issuing is not an instruction of the block: presented
by the host it is a reserved opcode, which ends with `ProgrammingError` and touches no transport
(R98 a, log entry 11).
-/

namespace Sys2Proof.Machine

/-- The trigger has been accepted: phase `SETTLE` begins and its timer starts at 0 (R33, R186). -/
def enterSettle (s : State) : State := { s with phase := .settle, settleT := some 0 }

/-- A measurement command in phase `WRITE` of a `READ` (R185, R230). A rejected write ends the
`READ` at once (R252). -/
def writeMeasurement (cmd : Byte) (s : State) : Out :=
  if s.state ≠ .measuring then .next (raise .programming s)
  else if s.phase ≠ .write then .next s
  else
    match s.handle with
    | none => .fault .noHandle
    | some h =>
      match memWrite h cmd s with
      | .held t => .next t
      | .answered st t =>
        if st = 0 then .next (enterSettle t) else .next (raise .commandError t)

/-- The soft reset command through the open handle (R183, R231): one write, no wait, no read. -/
def writeSoftReset (s : State) : Out :=
  match s.handle with
  | none => .fault .noHandle
  | some h =>
    match memWrite h Config.params.softReset s with
    | .held t => .next (hold .cmdSoftReset t)
    | .answered st t => if st = 0 then .next (finishOk t) else .next (raise .commandError t)

/-- `CMD_SOFT_RESET` (R231), in `Open`, where `SRESET` issues it. -/
def execCmdSoftReset (s : State) : Out :=
  match s.state with
  | .measuring => .next s
  | .closed => .next (raise .programming s)
  | .opened => writeSoftReset s

/-- `CMD_MEAS_HIGH` (R232). -/
def execCmdMeasHigh (s : State) : Out := writeMeasurement Config.params.measHigh s

/-- `CMD_MEAS_MED` (R233). -/
def execCmdMeasMed (s : State) : Out := writeMeasurement Config.params.measMed s

/-- `CMD_MEAS_LOW` (R234). -/
def execCmdMeasLow (s : State) : Out := writeMeasurement Config.params.measLow s

/-- `CMD_HEAT_HIGH_1S` (R235). -/
def execCmdHeatHigh1s (s : State) : Out := writeMeasurement Config.params.heatHigh1s s

/-- `CMD_HEAT_HIGH_100MS` (R236). -/
def execCmdHeatHigh100ms (s : State) : Out := writeMeasurement Config.params.heatHigh100ms s

/-- `CMD_HEAT_MED_1S` (R237). -/
def execCmdHeatMed1s (s : State) : Out := writeMeasurement Config.params.heatMed1s s

/-- `CMD_HEAT_MED_100MS` (R238). -/
def execCmdHeatMed100ms (s : State) : Out := writeMeasurement Config.params.heatMed100ms s

/-- `CMD_HEAT_LOW_1S` (R239). -/
def execCmdHeatLow1s (s : State) : Out := writeMeasurement Config.params.heatLow1s s

/-- `CMD_HEAT_LOW_100MS` (R240). -/
def execCmdHeatLow100ms (s : State) : Out := writeMeasurement Config.params.heatLow100ms s

end Sys2Proof.Machine
end

