-- ==== Sys2Proof/Machine/Session.lean ====
section
/-!
DEFINITION. The five session operations (42_session.md): `OPEN`, `SRESET`, `READ`, `SETMODE`,
`CLOSE`, and the phases `SETTLE`, `READ` and `DECODE` of a `READ` in progress. Phase `WRITE` is the
execution of the command in `MODE` (Commands).

While `STATE = Measuring` no host operation is accepted: presented to `exec` it changes nothing
(R181).
-/

namespace Sys2Proof.Machine

/-- A session is acquired (R182): the handle and the three configuration registers. -/
def startSession (h : Handle) (bus addr mode : Byte) (s : State) : State :=
  { s with state := .opened, handle := some h, cfgBus := bus, cfgAddr := addr, mode := mode }

/-- `OPEN` (R182): the state check, the mode check, then the transport (R257). -/
def execOpen (bus addr mode : Byte) (s : State) : Out :=
  match s.state with
  | .measuring => .next s
  | .opened => .next (raise .programming s)
  | .closed =>
    if isMeasurementMode mode then
      match xportOpen bus addr s with
      | .held t => .next (hold (.hostOpen bus addr mode) t)
      | .answered none t => .next (raise .openError t)
      | .answered (some h) t => .next (finishOk (startSession h bus addr mode t))
    else .next (raise .programming s)

/-- `SRESET` (R183): the state check, then the soft reset command. -/
def execSreset (s : State) : Out :=
  match s.state with
  | .measuring => .next s
  | .closed => .next (raise .programming s)
  | .opened => writeSoftReset s

/-- A `READ` has passed its state check (R184): `Measuring`, phase `WRITE`, `VALID` cleared (R30);
`CRC_ACC` no longer holds an earlier `CRC8` result (R27). -/
def startRead (s : State) : State :=
  loseCrcAcc { clearMeasurement s with state := .measuring, phase := .write }

/-- `READ` (R184): the state check and the entry into `Measuring`; its phases are further steps. -/
def execRead (s : State) : Out :=
  match s.state with
  | .measuring => .next s
  | .closed => .next (raise .programming s)
  | .opened => .next (startRead s)

/-- `SETMODE` (R190): the state check, then the mode check; no transport call. -/
def execSetmode (imm8 : Byte) (s : State) : Out :=
  match s.state with
  | .measuring => .next s
  | .closed => .next (raise .programming s)
  | .opened =>
    if isMeasurementMode imm8 then .next (finishOk { s with mode := imm8 })
    else .next (raise .programming s)

/-- `CLOSE` (R191); on a closed session a no-op that ends `OK` (R192). -/
def execClose (s : State) : Out :=
  match s.state with
  | .measuring => .next s
  | .closed => .next (finishOk s)
  | .opened =>
    match s.handle with
    | none => .fault .noHandle
    | some h =>
      match xportClose h s with
      | .held t => .next (hold .hostClose t)
      | .answered () t => .next (finishOk { t with handle := none, state := .closed })

/-- Phase `SETTLE` (R33, R186): it ends once at least 10 ms have elapsed; until then time passes,
or nothing happens. It issues no transport operation. -/
def phaseSettle (s : State) : State :=
  let elapsed := s.settleT.getD 0
  if Config.params.settleMin ≤ elapsed then
    { s with phase := .read, settleT := none, trace := s.trace ++ [.wait elapsed] }
  else
    match s.timePassing with
    | [] => s
    | d :: rest => { s with settleT := some (elapsed + d), timePassing := rest }

/-- Six bytes arrived: they are the frame, and phase `DECODE` follows (R187 a). -/
def loadFrame (f : RawFrame) (s : State) : State :=
  { s with frame := f, frameCnt := Config.params.frameLen, phase := .decode }

/-- Phase `READ` (R187): one read of six bytes; any other count, or `error`, ends the `READ`. -/
def phaseRead (s : State) : Out :=
  match s.handle with
  | none => .fault .noHandle
  | some h =>
    match memRead h Config.params.frameLen s with
    | .held t => .next t
    | .answered .error t => .next (raise (.readLength 0 true) (loseScratch t))
    | .answered (.data bytes) t =>
      match frameOfBytes bytes with
      | some f => .next (loadFrame f t)
      | none => .next (raise (.readLength bytes.length false) (loseScratch t))

/-- Phase `DECODE` (R188). -/
def phaseDecode (s : State) : State := decodeAndReport s

end Sys2Proof.Machine
end

