-- ==== Sys2Proof/Machine/Dispatch.lean ====
section
/-!
DEFINITION. `exec`: one arm for each instruction, each a call of its own meaning.
-/

namespace Sys2Proof.Machine

/-- The effect of an instruction. -/
def exec (i : Instr) (s : State) : Host.Outcome State Fault Refusal :=
  match i with
  -- host operations (R96)
  | .hostOpen bus addr mode => Sys2Proof.Machine.execOpen bus addr mode s
  | .hostSreset => Sys2Proof.Machine.execSreset s
  | .hostRead => Sys2Proof.Machine.execRead s
  | .hostSetmode imm8 => Sys2Proof.Machine.execSetmode imm8 s
  | .hostClose => Sys2Proof.Machine.execClose s
  | .hostCrc8 data => Sys2Proof.Machine.execCrc8 data s
  | .hostDecode f0 f1 f2 f3 f4 f5 => Sys2Proof.Machine.execDecode f0 f1 f2 f3 f4 f5 s
  -- device commands (R92)
  | .cmdSoftReset => Sys2Proof.Machine.execCmdSoftReset s
  | .cmdMeasHigh => Sys2Proof.Machine.execCmdMeasHigh s
  | .cmdMeasMed => Sys2Proof.Machine.execCmdMeasMed s
  | .cmdMeasLow => Sys2Proof.Machine.execCmdMeasLow s
  | .cmdHeatHigh1s => Sys2Proof.Machine.execCmdHeatHigh1s s
  | .cmdHeatHigh100ms => Sys2Proof.Machine.execCmdHeatHigh100ms s
  | .cmdHeatMed1s => Sys2Proof.Machine.execCmdHeatMed1s s
  | .cmdHeatMed100ms => Sys2Proof.Machine.execCmdHeatMed100ms s
  | .cmdHeatLow1s => Sys2Proof.Machine.execCmdHeatLow1s s
  | .cmdHeatLow100ms => Sys2Proof.Machine.execCmdHeatLow100ms s

end Sys2Proof.Machine
end

