-- ==== Sys2Proof/Machine/Fetch.lean ====
section
/-!
DEFINITION. What the sequencer does next, in place of an instruction fetch (R21, R22): the operation
in flight, the device command in `MODE` (phase `WRITE`), another phase of the `READ`, or the request
at the host port.
-/

namespace Sys2Proof.Machine

/-- What comes next: an instruction and the state it runs in, or a step that is no instruction. -/
inductive Fetched where
  | instr (i : Instr) (s : State)
  | done (o : Out)

/-- `STATE = Measuring`: the phases of R22. No host request is taken (R181). -/
def fetchMeasuring (s : State) : Fetched :=
  match s.phase with
  | .idle => .done (.next s)
  | .write =>
    match decodeCmd8 s.mode with
    | some i => .instr i s
    | none => .done (.fault .modeNotACommand)
  | .settle => .done (.next (phaseSettle s))
  | .read => .done (phaseRead s)
  | .decode => .done (.next (phaseDecode s))

/-- `STATE` is `Closed` or `Open`: take the request at the host port. A reserved opcode ends with
`ProgrammingError` (R98 a, R194); its request is one byte (log entry 12). An unfinished request, or
none, leaves the block waiting. -/
def fetchHost (s : State) : Fetched :=
  match decodeHost s.hostIn with
  | .instr i rest => .instr i { s with hostIn := rest }
  | .reserved _ rest => .done (.next (raise .programming { s with hostIn := rest }))
  | .incomplete => .done (.next s)

/-- What comes next. -/
def fetch (s : State) : Fetched :=
  match s.inFlight with
  | some i => .instr i s
  | none =>
    match s.state with
    | .measuring => fetchMeasuring s
    | .closed | .opened => fetchHost s

/-- The host port holds exactly this request next: nothing is in flight and no `READ` is in progress. -/
def State.withRequest (s : State) (bytes : List Byte) : State :=
  { s with
    hostIn := bytes
    inFlight := none
    outstanding := none
    state := if s.state = .measuring then .opened else s.state
    phase := .idle
    settleT := none }

/-- The sequencer is in phase `WRITE` with this command in `MODE`, on an open handle. -/
def State.withTrigger (s : State) (cmd : Byte) : State :=
  { s with
    state := .measuring
    phase := .write
    handle := some (s.handle.getD ⟨0⟩)
    mode := cmd
    inFlight := none
    outstanding := none
    settleT := none }

/-- The sequencer is about to issue the soft reset command, on an open handle. -/
def State.withSoftReset (s : State) : State :=
  { s with
    state := .opened
    phase := .idle
    handle := some (s.handle.getD ⟨0⟩)
    inFlight := some .cmdSoftReset
    outstanding := none
    settleT := none }

/-- The table word stored where `fetch` finds its instruction next (log entry 2): a host request at
the host port, cut to its length; a measurement command in `MODE`; the soft reset in flight. -/
def State.placeWord (s : State) (nbits w : Nat) : State :=
  match decodeTableWord nbits w with
  | none => s.withRequest (tableBytes nbits w)
  | some i =>
    if i = .cmdSoftReset then s.withSoftReset
    else if i.isHost then s.withRequest ((tableBytes nbits w).take (encode i).length)
    else s.withTrigger (BitVec.ofNat 8 w)

end Sys2Proof.Machine
end

