-- ==== Sys2Proof/Machine/View.lean ====
section
/-!
DEFINITION. What the host reads from the block (`HRSP`, R99 to R101): the register codes, and the
registers with no value where the spec leaves them unspecified (R30, R32, U9).
-/

namespace Sys2Proof.Machine

/-- `STATUS` codes (R99). -/
def Status.code : Status → BitVec 3
  | .ok => 0
  | .openError => 1
  | .commandError => 2
  | .readLengthError => 3
  | .checksumMismatch => 4
  | .programmingError => 5

/-- `STATE` codes (R101). -/
def SessionState.code : SessionState → BitVec 2
  | .closed => 0
  | .opened => 1
  | .measuring => 2

/-- `PHASE` codes (R101). -/
def Phase.code : Phase → BitVec 3
  | .idle => 0
  | .write => 1
  | .settle => 2
  | .read => 3
  | .decode => 4

/-- `ERR_FIELD` codes (R100). -/
def errFieldCode : ErrField → BitVec 1
  | .temperature => 0
  | .humidity => 1

/-- The registers the host can read. `none`: no value can be read now. `CRC_ACC` and `CFG_BUS` are
given as they stand; where unspecified they hold free values (log entries 3 and 4). -/
structure HostView where
  state : BitVec 2
  phase : BitVec 3
  status : BitVec 3
  valid : Bool
  temp : Option F64
  hum : Option F64
  crcAcc : Byte
  cfgBus : Byte
  cfgAddr : Byte
  mode : Byte
  errField : Option (BitVec 1)
  errExpected : Option Byte
  errActual : Option Byte
  errXport : Option Bool
  deriving DecidableEq, Repr

/-- The host's view of a state (R32: a detail register is read only when `STATUS` defines it). -/
def hostView (s : State) : HostView where
  state := s.state.code
  phase := s.phase.code
  status := s.status.code
  valid := s.valid
  temp := if s.valid then s.temp else none
  hum := if s.valid then s.hum else none
  crcAcc := s.crcAcc
  cfgBus := s.cfgBus
  cfgAddr := s.cfgAddr
  mode := s.mode
  errField := if s.status = .checksumMismatch then some (errFieldCode s.errField) else none
  errExpected :=
    if s.status = .checksumMismatch ∨ s.status = .readLengthError then some s.errExpected else none
  errActual :=
    if s.status = .checksumMismatch ∨ s.status = .readLengthError then some s.errActual else none
  errXport := if s.status = .readLengthError then some s.errXport else none

end Sys2Proof.Machine
end

