-- ==== Sys2Proof/Safety.lean ====
section
/-!
DEFINITION. What holds of every state a run reaches, in the terms the claims use: the invariants of
R37, the hold discipline of R197, the order of R70 on the trace, and the handle balance of R199.
-/

namespace Sys2Proof.Machine

/-- The invariants (a) to (e) of R37, with R30 (`TEMP` and `HUM` have a value exactly when
`VALID = 1`; a `READ` in progress has cleared `VALID`) and R262 (the timer runs only in phase
`SETTLE`). R37 (f) is (b) read backwards: in phase `IDLE` no `READ` is in progress. -/
structure State.Inv (s : State) : Prop where
  handle_none_iff_closed : s.handle = none ↔ s.state = .closed
  phase_idle_iff : s.phase = .idle ↔ s.state ≠ .measuring
  mode_legal : s.mode ∈ [0xFD, 0xF6, 0xE0, 0x39, 0x3A, 0x32, 0x33, 0x2F, 0x30]
  table_built : s.table = buildTable 0x31
  temp_iff_valid : s.temp.isSome = s.valid
  hum_iff_valid : s.hum.isSome = s.valid
  temp_range : ∀ t, s.temp = some t → -45 ≤ F64.toRat t ∧ F64.toRat t ≤ 130
  hum_range : ∀ h, s.hum = some h → 0 ≤ F64.toRat h ∧ F64.toRat h ≤ 100
  timer_iff_settle : s.settleT.isSome = true ↔ s.phase = .settle
  measuring_not_valid : s.state = .measuring → s.valid = false

/-- Between operations: no phase of a `READ` and no timer (R22, R33). -/
def State.Between (s : State) : Prop := s.phase = .idle ∧ s.settleT = none

/-- No operation waits for the transport. -/
def State.NoneWaiting (s : State) : Prop := s.inFlight = none ∧ s.outstanding = none

/-- `s` as an operation that ends with `STATUS = st` leaves it, over what the operation itself has
written: nothing is in flight. The detail registers and the draw counter are taken from `t`, so that
`t = s.ended st t` says nothing of them (R32: unspecified unless `STATUS` defines them, log entry 4). -/
def State.ended (s : State) (st : Status) (t : State) : State :=
  { s with
    status := st
    errField := t.errField
    errExpected := t.errExpected
    errActual := t.errActual
    errXport := t.errXport
    draw := t.draw
    inFlight := none
    outstanding := none }

/-- `s` with the scratch registers of `t`, so that `t = s.scratchOf t` says nothing of them: after a
`READ` or `DECODE` they are unspecified (R27, R28, R29, log entry 4). -/
def State.scratchOf (s t : State) : State :=
  { s with
    crcAcc := t.crcAcc
    frame := t.frame
    frameCnt := t.frameCnt
    rawT := t.rawT
    rawH := t.rawH
    draw := t.draw }

/-- The trace after issuing `c`: a call that is outstanding already is not issued again (R65). -/
def State.traceWith (s : State) (c : XportCall) : List XportCall :=
  if s.outstanding = some c then s.trace else s.trace ++ [c]

/-- Which transport calls can be outstanding, and for which operation (R197): in `Closed` the
`open` of an `OPEN`; in `Open` the soft reset write or the `close`; in `Measuring` the trigger of
phase `WRITE` or the read of phase `READ`. -/
def State.Waiting (s : State) : Prop :=
  (∃ bus addr mode, s.state = .closed ∧ isMeasurementMode mode = true ∧
      s.inFlight = some (.hostOpen bus addr mode) ∧ s.outstanding = some (.openBus bus addr)) ∨
  (∃ h, s.state = .opened ∧ s.handle = some h ∧ s.inFlight = some .cmdSoftReset ∧
      s.outstanding = some (.writeByte h 0x94)) ∨
  (∃ h, s.state = .opened ∧ s.handle = some h ∧ s.inFlight = some .hostClose ∧
      s.outstanding = some (.closeBus h)) ∨
  (∃ h, s.phase = .write ∧ s.handle = some h ∧ s.inFlight = none ∧
      s.outstanding = some (.writeByte h s.mode)) ∨
  (∃ h, s.phase = .read ∧ s.handle = some h ∧ s.inFlight = none ∧
      s.outstanding = some (.readBytes h 6))

/-- Nothing waits, or what waits is one of the calls the rules issue. -/
def State.HoldOk (s : State) : Prop := s.NoneWaiting ∨ s.Waiting

/-- Where a trace stands in the order of R70. -/
inductive Order where
  /-- No trigger is waiting for its settle time. -/
  | free
  /-- The last call is a trigger. -/
  | triggered
  /-- The last trigger has been followed by its wait. -/
  | waited
  deriving DecidableEq, Repr

/-- One more call: `none` where it breaks the order write, wait of at least 10 ms, read of six bytes
(R70), or writes a byte that is no device command (R241). -/
def Order.next : Order → XportCall → Option Order
  | .waited, .readBytes _ n => if n = 6 then some .free else none
  | .waited, _ => none
  | .triggered, .wait t => if 10000 ≤ t then some .waited else none
  | .free, .wait _ => none
  | _, .readBytes _ _ => none
  | _, .writeByte _ b =>
    if isMeasurementMode b then some .triggered else if b = 0x94 then some .free else none
  | _, .openBus _ _ => some .free
  | _, .closeBus _ => some .free

/-- Where a whole trace stands; `none` once the order is broken. -/
def traceOrder (calls : List XportCall) : Option Order :=
  calls.foldl (fun o c => o.bind fun x => x.next c) (some .free)

/-- The trace keeps the order of R70, and the sequencer is where the trace says. -/
def State.OrderOk (s : State) : Prop :=
  match s.phase, s.outstanding with
  | .settle, _ => traceOrder s.trace = some .triggered
  | .write, some _ => traceOrder s.trace = some .triggered
  | .read, none => traceOrder s.trace = some .waited
  | _, _ => traceOrder s.trace = some .free ∨ traceOrder s.trace = some .triggered

/-- The handles a trace passes to `close`, in order. -/
def closedHandles : List XportCall → List Handle
  | [] => []
  | .closeBus h :: rest => h :: closedHandles rest
  | .openBus _ _ :: rest => closedHandles rest
  | .writeByte _ _ :: rest => closedHandles rest
  | .wait _ :: rest => closedHandles rest
  | .readBytes _ _ :: rest => closedHandles rest

/-- R199 on a state: the handles `open` has returned are, in order, those passed to `close` and then
the one still held and not being closed. -/
def State.ReleaseOk (s : State) : Prop :=
  s.granted =
    closedHandles s.trace ++ (if s.inFlight = some .hostClose then [] else s.handle.toList)

end Sys2Proof.Machine
end

