-- ==== Sys2Proof/Certificates/Slice0/Obligations.lean ====
section
/-!
DEFINITION. The statements for the provers, one `def Obligations.<Name> : Prop` each.

In every statement about an instruction the next state is written whole: `t = { … }` over the state
before, so what is not named is unchanged. `ended` and `scratchOf` leave open the registers the spec
calls unspecified.
-/

open Sys2Proof
open Sys2Proof.Machine

/-! ### Encodings -/

/-- Every well-formed host request, with every operand value, decodes to itself, whatever follows it
(R95 to R97). -/
def Obligations.HostRequestRoundTrip : Prop :=
  ∀ (i : Instr) (rest : List Byte), i.isHost = true → i.wellFormed = true →
    decodeHost (encode i ++ rest) = .instr i rest

/-- The other direction: bytes that decode to a request are its encoding and what follows it. -/
def Obligations.DecodedRequestReencodes : Prop :=
  ∀ (bytes rest : List Byte) (i : Instr), decodeHost bytes = .instr i rest →
    i.isHost = true ∧ i.wellFormed = true ∧ bytes = encode i ++ rest

/-- Device commands are single bytes that decode to themselves; the bytes that decode are exactly the
ten of R92, and the measurement commands are exactly those legal in `MODE`. -/
def Obligations.DeviceCommandRoundTrip : Prop :=
  (∀ i : Instr, i.isHost = false → ∃ b, encode i = [b] ∧ decodeCmd8 b = some i) ∧
  (∀ (b : Byte) (i : Instr), decodeCmd8 b = some i →
    i.isHost = false ∧ encode i = [b] ∧ (i.isMeasurement = isMeasurementMode b)) ∧
  (∀ b : Byte, (decodeCmd8 b).isSome = true ↔
    b ∈ [0x94, 0xFD, 0xF6, 0xE0, 0x39, 0x3A, 0x32, 0x33, 0x2F, 0x30])

/-- A frame and its 48-bit form: byte 0 is bits 47 to 40, byte 5 bits 7 to 0, and nothing is lost
(R94). -/
def Obligations.ResponseFrameLayout : Prop :=
  (∀ f : RawFrame, (rsp48 f).toNat =
    ((((f.tHi.toNat * 256 + f.tLo.toNat) * 256 + f.tCrc.toNat) * 256 + f.hHi.toNat) * 256 +
      f.hLo.toNat) * 256 + f.hCrc.toNat) ∧
  (∀ f : RawFrame, ofRsp48 (rsp48 f) = f) ∧ (∀ v : BitVec 48, rsp48 (ofRsp48 v) = v)

/-- Words written out from R92, R95 and R96 decode to the instructions they stand for. -/
def Obligations.WordsDecodeAsWritten : Prop :=
  decodeHost [0x01, 0x01, 0x44, 0xFD] = .instr (.hostOpen 0x01 0x44 0xFD) [] ∧
  decodeHost [0x04, 0xE0, 0x03] = .instr (.hostSetmode 0xE0) [0x03] ∧
  decodeHost [0x06, 0x02, 0xBE, 0xEF] = .instr (.hostCrc8 [0xBE, 0xEF]) [] ∧
  decodeHost [0x07, 0x66, 0x66, 0x93, 0x00, 0x00, 0x81] =
    .instr (.hostDecode 0x66 0x66 0x93 0x00 0x00 0x81) [] ∧
  decodeCmd8 0x94 = some .cmdSoftReset ∧ decodeCmd8 0xF6 = some .cmdMeasMed ∧
  decodeCmd8 0x2F = some .cmdHeatLow1s ∧ decodeCmd8 0x30 = some .cmdHeatLow100ms

/-- The assembler's `OPEN` fills in the default address and mode (R103, R104). -/
def Obligations.AssemblerFillsDefaults : Prop :=
  ∀ bus addr mode : Byte,
    (AsmLine.lineOpen bus none).assemble = [0x01, bus, 0x44, 0xFD] ∧
    (AsmLine.lineOpen bus (some (addr, none))).assemble = [0x01, bus, addr, 0xFD] ∧
    (AsmLine.lineOpen bus (some (addr, some mode))).assemble = [0x01, bus, addr, mode]

/-! ### The step -/

/-- A step in `Closed` or `Open` with nothing in flight runs the request at the host port, which is
taken off it (R69, R181). -/
def Obligations.StepRunsHostRequest : Prop :=
  ∀ (s : State) (i : Instr) (rest : List Byte), s.inFlight = none → s.state ≠ .measuring →
    decodeHost s.hostIn = .instr i rest → step s = exec i { s with hostIn := rest }

/-- A step in phase `WRITE` runs the device command in `MODE` (R185). -/
def Obligations.StepRunsCommandInMode : Prop :=
  ∀ (s : State) (i : Instr), s.inFlight = none → s.state = .measuring → s.phase = .write →
    decodeCmd8 s.mode = some i → step s = exec i s

/-- A step with an operation in flight goes on with that operation (R69 b: its transport call is
answered before anything else is issued). -/
def Obligations.StepResumesInFlight : Prop :=
  ∀ (s : State) (i : Instr), s.inFlight = some i → step s = exec i s

/-- A reserved opcode ends with `ProgrammingError` and has no other effect (R98 a, R194); its request
is taken to be one byte (the model's choice, log entry 12). -/
def Obligations.ReservedOpcodeIsProgrammingError : Prop :=
  ∀ (s : State) (op : Byte) (rest : List Byte), s.Between → s.NoneWaiting →
    s.state ≠ .measuring → s.hostIn = op :: rest → (op = 0x00 ∨ 0x08 ≤ op) →
    ∃ t, step s = .next t ∧ t = { s with hostIn := rest }.ended .programmingError t

/-- While the host has presented no whole request the block waits, unchanged (R95, R290): that an
unfinished request waits is the model's choice (log entry 12). -/
def Obligations.UnfinishedRequestWaits : Prop :=
  ∀ s : State, s.NoneWaiting → s.state ≠ .measuring → decodeHost s.hostIn = .incomplete →
    step s = .next s

/-! ### Reset -/

/-- What block reset leaves wherever R36 gives a value. -/
def Obligations.ResetLeavesGivenValues : Prop :=
  State.reset.state = .closed ∧ State.reset.phase = .idle ∧ State.reset.handle = none ∧
  State.reset.cfgAddr = 0x44 ∧ State.reset.mode = 0xFD ∧
  (∀ i : Byte, CrcTable.look State.reset.table i = crc8Byte i 0x31) ∧
  State.reset.valid = false ∧ State.reset.temp = none ∧ State.reset.hum = none ∧
  State.reset.status = .ok ∧ State.reset.settleT = none

/-- The invariants hold after block reset. -/
def Obligations.ResetMeetsInvariants : Prop :=
  State.reset.Inv ∧ State.reset.HoldOk ∧ State.reset.OrderOk ∧ State.reset.ReleaseOk

/-! ### The CRC engine -/

/-- The table built from `0x31` is the listing of R121. -/
def Obligations.TableIsTheListing : Prop :=
  (buildTable 0x31).toList =
    [0x00, 0x31, 0x62, 0x53, 0xC4, 0xF5, 0xA6, 0x97, 0xB9, 0x88, 0xDB, 0xEA, 0x7D, 0x4C, 0x1F, 0x2E] ++
    [0x43, 0x72, 0x21, 0x10, 0x87, 0xB6, 0xE5, 0xD4, 0xFA, 0xCB, 0x98, 0xA9, 0x3E, 0x0F, 0x5C, 0x6D] ++
    [0x86, 0xB7, 0xE4, 0xD5, 0x42, 0x73, 0x20, 0x11, 0x3F, 0x0E, 0x5D, 0x6C, 0xFB, 0xCA, 0x99, 0xA8] ++
    [0xC5, 0xF4, 0xA7, 0x96, 0x01, 0x30, 0x63, 0x52, 0x7C, 0x4D, 0x1E, 0x2F, 0xB8, 0x89, 0xDA, 0xEB] ++
    [0x3D, 0x0C, 0x5F, 0x6E, 0xF9, 0xC8, 0x9B, 0xAA, 0x84, 0xB5, 0xE6, 0xD7, 0x40, 0x71, 0x22, 0x13] ++
    [0x7E, 0x4F, 0x1C, 0x2D, 0xBA, 0x8B, 0xD8, 0xE9, 0xC7, 0xF6, 0xA5, 0x94, 0x03, 0x32, 0x61, 0x50] ++
    [0xBB, 0x8A, 0xD9, 0xE8, 0x7F, 0x4E, 0x1D, 0x2C, 0x02, 0x33, 0x60, 0x51, 0xC6, 0xF7, 0xA4, 0x95] ++
    [0xF8, 0xC9, 0x9A, 0xAB, 0x3C, 0x0D, 0x5E, 0x6F, 0x41, 0x70, 0x23, 0x12, 0x85, 0xB4, 0xE7, 0xD6] ++
    [0x7A, 0x4B, 0x18, 0x29, 0xBE, 0x8F, 0xDC, 0xED, 0xC3, 0xF2, 0xA1, 0x90, 0x07, 0x36, 0x65, 0x54] ++
    [0x39, 0x08, 0x5B, 0x6A, 0xFD, 0xCC, 0x9F, 0xAE, 0x80, 0xB1, 0xE2, 0xD3, 0x44, 0x75, 0x26, 0x17] ++
    [0xFC, 0xCD, 0x9E, 0xAF, 0x38, 0x09, 0x5A, 0x6B, 0x45, 0x74, 0x27, 0x16, 0x81, 0xB0, 0xE3, 0xD2] ++
    [0xBF, 0x8E, 0xDD, 0xEC, 0x7B, 0x4A, 0x19, 0x28, 0x06, 0x37, 0x64, 0x55, 0xC2, 0xF3, 0xA0, 0x91] ++
    [0x47, 0x76, 0x25, 0x14, 0x83, 0xB2, 0xE1, 0xD0, 0xFE, 0xCF, 0x9C, 0xAD, 0x3A, 0x0B, 0x58, 0x69] ++
    [0x04, 0x35, 0x66, 0x57, 0xC0, 0xF1, 0xA2, 0x93, 0xBD, 0x8C, 0xDF, 0xEE, 0x79, 0x48, 0x1B, 0x2A] ++
    [0xC1, 0xF0, 0xA3, 0x92, 0x05, 0x34, 0x67, 0x56, 0x78, 0x49, 0x1A, 0x2B, 0xBC, 0x8D, 0xDE, 0xEF] ++
    [0x82, 0xB3, 0xE0, 0xD1, 0x46, 0x77, 0x24, 0x15, 0x3B, 0x0A, 0x59, 0x68, 0xFF, 0xCE, 0x9D, 0xAC]

/-- The table is a permutation of the bytes and linear over exclusive-or (R121). -/
def Obligations.TableIsLinearPermutation : Prop :=
  (∀ a b : Byte, CrcTable.look (buildTable 0x31) (a ^^^ b) =
    CrcTable.look (buildTable 0x31) a ^^^ CrcTable.look (buildTable 0x31) b) ∧
  (∀ b : Byte, ∃! a : Byte, CrcTable.look (buildTable 0x31) a = b)

/-- `crc8_byte` for every polynomial: linear over exclusive-or, 0 to 0, 1 to the polynomial (R120,
R132); every table built is that function (R26). -/
def Obligations.CrcByteIsLinear : Prop :=
  ∀ p : Byte,
    (∀ a b : Byte, crc8Byte (a ^^^ b) p = crc8Byte a p ^^^ crc8Byte b p) ∧
    crc8Byte 0 p = 0 ∧ crc8Byte 1 p = p ∧
    (∀ i : Byte, CrcTable.look (buildTable p) i = crc8Byte i p)

/-- The fold of R124: the empty sequence, one more byte, and the checksum of a sequence followed by
its own checksum. -/
def Obligations.ChecksumFold : Prop :=
  ∀ (d : List Byte) (b i : Byte),
    checksum (buildTable 0x31) [] i = i ∧
    checksum (buildTable 0x31) (d ++ [b]) i =
      CrcTable.look (buildTable 0x31) (checksum (buildTable 0x31) d i ^^^ b) ∧
    checksum (buildTable 0x31) (d ++ [checksum (buildTable 0x31) d i]) i = 0

/-- Table self-consistency for all 256 bytes (R128). -/
def Obligations.SingleByteChecksum : Prop :=
  ∀ b : Byte, checksum (buildTable 0x31) [b] 0xFF = CrcTable.look (buildTable 0x31) (0xFF ^^^ b)

/-- The checksum of an exclusive-or of two sequences of equal length (R132). -/
def Obligations.ChecksumIsLinear : Prop :=
  ∀ (d e : List Byte) (i : Byte), d.length = e.length →
    checksum (buildTable 0x31) (List.zipWith (· ^^^ ·) d e) i =
      checksum (buildTable 0x31) d i ^^^ checksum (buildTable 0x31) e 0x00

/-- The validator: it passes exactly when computed and embedded checksum are equal, which is when the
three bytes check to 0, and a mismatch reports the computed and the embedded one (R127). -/
def Obligations.ValidatorVerdict : Prop :=
  ∀ hi lo emb : Byte,
    (validate (buildTable 0x31) hi lo emb = .pass ↔
      checksum (buildTable 0x31) [hi, lo] 0xFF = emb) ∧
    (validate (buildTable 0x31) hi lo emb = .pass ↔
      checksum (buildTable 0x31) [hi, lo, emb] 0xFF = 0x00) ∧
    (checksum (buildTable 0x31) [hi, lo] 0xFF ≠ emb →
      validate (buildTable 0x31) hi lo emb =
        .mismatch (checksum (buildTable 0x31) [hi, lo] 0xFF) emb)

/-- Which corruptions of a word pass with its checksum unchanged: exactly those whose own checksum
from 0 is 0, one for each high byte, hence 255 besides the empty one (R130). -/
def Obligations.UndetectedCorruptions : Prop :=
  (∀ hi lo eHi eLo : Byte,
    validate (buildTable 0x31) (hi ^^^ eHi) (lo ^^^ eLo)
        (checksum (buildTable 0x31) [hi, lo] 0xFF) = .pass ↔
      checksum (buildTable 0x31) [eHi, eLo] 0x00 = 0x00) ∧
  (∀ eHi : Byte, ∃! eLo : Byte, checksum (buildTable 0x31) [eHi, eLo] 0x00 = 0x00) ∧
  checksum (buildTable 0x31) [0x01, 0x31] 0x00 = 0x00

/-- Flipping one bit of a word, or two different bits, is always detected (R130). -/
def Obligations.OneAndTwoBitFlipsDetected : Prop :=
  ∀ (hi lo : Byte) (a b : Fin 16) (e : Word),
    e = BitVec.twoPow 16 a ||| BitVec.twoPow 16 b →
    ∃ x y, validate (buildTable 0x31) (hi ^^^ e.extractLsb' 8 8) (lo ^^^ e.extractLsb' 0 8)
      (checksum (buildTable 0x31) [hi, lo] 0xFF) = .mismatch x y

/-- `CRC8` ends `OK` with the checksum of its bytes in `CRC_ACC` and changes nothing else (R126). -/
def Obligations.Crc8Completes : Prop :=
  ∀ (s : State) (data : List Byte), s.state ≠ .measuring →
    ∃ t, exec (.hostCrc8 data) s = .next t ∧
      t = { s with crcAcc := checksum s.table data 0xFF }.ended .ok t

/-! ### The decoder -/

/-- `WORD16` is big-endian and unsigned (R155, R61). -/
def Obligations.WordIsBigEndian : Prop :=
  ∀ hi lo : Byte, (word16 hi lo).toNat = hi.toNat * 256 + lo.toNat

/-- The exact corner values of the two conversions (R156, R157). -/
def Obligations.ConversionCorners : Prop :=
  convT 0 = 0xC046800000000000 ∧ convT 65535 = 0x4060400000000000 ∧
  convT 26214 = 0x4039000000000000 ∧ convH 0 = 0x0000000000000000 ∧
  convH 65535 = 0x4059000000000000 ∧ convH 26214 = 0x4044000000000000

/-- Every result lies in [-45, 130] or [0, 100] and is finite (R102, R159). -/
def Obligations.ConversionRange : Prop :=
  ∀ raw : Word,
    F64.isFinite (convT raw) = true ∧ -45 ≤ F64.toRat (convT raw) ∧ F64.toRat (convT raw) ≤ 130 ∧
    F64.isFinite (convH raw) = true ∧ 0 ≤ F64.toRat (convH raw) ∧ F64.toRat (convH raw) ≤ 100

/-- Each result is within 2.4e-14 (temperature) or 1.3e-14 (humidity) of the exact rational of R156
or R157 (R158). -/
def Obligations.ConversionAccuracy : Prop :=
  ∀ raw : Word,
    |F64.toRat (convT raw) - (35 * (raw.toNat : ℚ) - 589815) / 13107| < 24 / 10 ^ 15 ∧
    |F64.toRat (convH raw) - 20 * (raw.toNat : ℚ) / 13107| < 13 / 10 ^ 15

/-- The temperature is negative up to raw word 16851 and positive from 16852, never zero (R156). -/
def Obligations.TemperatureSign : Prop :=
  ∀ raw : Word,
    (raw.toNat ≤ 16851 → F64.toRat (convT raw) < 0) ∧
    (16852 ≤ raw.toNat → 0 < F64.toRat (convT raw))

/-- Both conversions are strictly increasing in the raw word (R156, R157). -/
def Obligations.ConversionsIncrease : Prop :=
  ∀ a b : Word, a < b →
    F64.toRat (convT a) < F64.toRat (convT b) ∧ F64.toRat (convH a) < F64.toRat (convH b)

/-- `DECODE` always completes. Temperature is compared first; the first mismatch is reported with its
field, the computed and the embedded checksum, and no value; when both pass, both results are there
(R154, R160, R161). Nothing else changes but the scratch registers. -/
def Obligations.DecodeCompletes : Prop :=
  ∀ (s : State) (f0 f1 f2 f3 f4 f5 : Byte), s.state ≠ .measuring → s.Between →
    ∃ t, exec (.hostDecode f0 f1 f2 f3 f4 f5) s = .next t ∧
      (checksum s.table [f0, f1] 0xFF ≠ f2 →
        t = ({ s with valid := false, temp := none, hum := none }.scratchOf t).ended
          .checksumMismatch t ∧
        t.errField = .temperature ∧ t.errExpected = checksum s.table [f0, f1] 0xFF ∧
        t.errActual = f2) ∧
      (checksum s.table [f0, f1] 0xFF = f2 → checksum s.table [f3, f4] 0xFF ≠ f5 →
        t = ({ s with valid := false, temp := none, hum := none }.scratchOf t).ended
          .checksumMismatch t ∧
        t.errField = .humidity ∧ t.errExpected = checksum s.table [f3, f4] 0xFF ∧
        t.errActual = f5) ∧
      (checksum s.table [f0, f1] 0xFF = f2 → checksum s.table [f3, f4] 0xFF = f5 →
        t = ({ s with
          valid := true
          temp := some (convT (f0 ++ f1))
          hum := some (convH (f3 ++ f4)) }.scratchOf t).ended .ok t)

/-- The decode that runs on `FRAME`, `CRC_ACC`, `RAW_T` and `RAW_H` gives what the pure decoder of
R150 gives. -/
def Obligations.RegisterDecodeMeetsPureDecoder : Prop :=
  ∀ s : State,
    (∀ x y, decodeFrame s.table s.frame = .measurement x y →
      (decodeAndReport s).status = .ok ∧ (decodeAndReport s).valid = true ∧
      (decodeAndReport s).temp = some x ∧ (decodeAndReport s).hum = some y) ∧
    (∀ field e a, decodeFrame s.table s.frame = .checksumMismatch field e a →
      (decodeAndReport s).status = .checksumMismatch ∧ (decodeAndReport s).valid = s.valid ∧
      (decodeAndReport s).errField = field ∧ (decodeAndReport s).errExpected = e ∧
      (decodeAndReport s).errActual = a)

/-! ### The session -/

/-- `OPEN` in every case: refused in `Open`, refused for an illegal mode, opened, answered `error`, or
not answered yet (R182, R197, R251, R257). -/
def Obligations.OpenCompletes : Prop :=
  ∀ (s : State) (bus addr mode : Byte), s.Between →
    (s.state = .opened →
      ∃ t, exec (.hostOpen bus addr mode) s = .next t ∧ t = s.ended .programmingError t) ∧
    (s.state = .closed → mode ∉ [0xFD, 0xF6, 0xE0, 0x39, 0x3A, 0x32, 0x33, 0x2F, 0x30] →
      ∃ t, exec (.hostOpen bus addr mode) s = .next t ∧ t = s.ended .programmingError t) ∧
    (s.state = .closed → mode ∈ [0xFD, 0xF6, 0xE0, 0x39, 0x3A, 0x32, 0x33, 0x2F, 0x30] →
      (∀ h rest, s.openAnswers = some h :: rest →
        ∃ t, exec (.hostOpen bus addr mode) s = .next t ∧
          t = { s with
            state := .opened
            handle := some h
            cfgBus := bus
            cfgAddr := addr
            mode := mode
            openAnswers := rest
            granted := s.granted ++ [h]
            trace := s.traceWith (.openBus bus addr) }.ended .ok t) ∧
      (∀ rest, s.openAnswers = none :: rest →
        ∃ t, exec (.hostOpen bus addr mode) s = .next t ∧
          t = { s with
            openAnswers := rest
            trace := s.traceWith (.openBus bus addr) }.ended .openError t) ∧
      (s.openAnswers = [] →
        exec (.hostOpen bus addr mode) s = .next { s with
          inFlight := some (.hostOpen bus addr mode)
          outstanding := some (.openBus bus addr)
          trace := s.traceWith (.openBus bus addr) }))

/-- `SRESET` in `Open`, and the `CMD_SOFT_RESET` it issues: one write of `0x94`; `OK` on status 0,
`CommandError` on any other, and nothing but `STATUS` changes (R183, R231, R252, R292). -/
def Obligations.SoftResetCompletes : Prop :=
  ∀ (s : State) (i : Instr) (h : Handle), (i = .hostSreset ∨ i = .cmdSoftReset) →
    s.Between → s.state = .opened → s.handle = some h →
    (∀ rest, s.writeAnswers = 0 :: rest →
      ∃ t, exec i s = .next t ∧
        t = { s with
          writeAnswers := rest
          trace := s.traceWith (.writeByte h 0x94) }.ended .ok t) ∧
    (∀ st rest, s.writeAnswers = st :: rest → st ≠ 0 →
      ∃ t, exec i s = .next t ∧
        t = { s with
          writeAnswers := rest
          trace := s.traceWith (.writeByte h 0x94) }.ended .commandError t) ∧
    (s.writeAnswers = [] →
      exec i s = .next { s with
        inFlight := some .cmdSoftReset
        outstanding := some (.writeByte h 0x94)
        trace := s.traceWith (.writeByte h 0x94) })

/-- `READ` in `Open` enters `Measuring`, phase `WRITE`, and clears `VALID`; `CRC_ACC` becomes
unspecified and nothing else changes (R184, R27, R30). -/
def Obligations.ReadStarts : Prop :=
  ∀ s : State, s.state = .opened →
    ∃ t, exec .hostRead s = .next t ∧
      t = { s with
        state := .measuring
        phase := .write
        valid := false
        temp := none
        hum := none
        crcAcc := t.crcAcc
        draw := t.draw }

/-- Each of the nine measurement commands in phase `WRITE` writes its own byte, verbatim: on status 0
the settle wait begins at 0, on any other the `READ` ends with `CommandError` and no wait, and
without an answer the phase is kept (R185, R230, R232 to R240, R252). -/
def Obligations.TriggerCompletes : Prop :=
  ∀ (s : State) (i : Instr) (cmd : Byte) (h : Handle), i.isMeasurement = true → encode i = [cmd] →
    s.state = .measuring → s.phase = .write → s.handle = some h →
    (∀ rest, s.writeAnswers = 0 :: rest →
      exec i s = .next { s with
        phase := .settle
        settleT := some 0
        writeAnswers := rest
        outstanding := none
        trace := s.traceWith (.writeByte h cmd) }) ∧
    (∀ st rest, s.writeAnswers = st :: rest → st ≠ 0 →
      ∃ t, exec i s = .next t ∧
        t = { s with
          state := .opened
          phase := .idle
          settleT := none
          writeAnswers := rest
          trace := s.traceWith (.writeByte h cmd) }.ended .commandError t) ∧
    (s.writeAnswers = [] →
      exec i s = .next { s with
        outstanding := some (.writeByte h cmd)
        trace := s.traceWith (.writeByte h cmd) })

/-- A command byte that no operation is issuing ends with `ProgrammingError` and touches no
transport: the model's reading of R98 a (log entry 11). -/
def Obligations.CommandOutsideItsOperation : Prop :=
  ∀ (s : State) (i : Instr), s.Between →
    ((i = .cmdSoftReset ∧ s.state = .closed) ∨ (i.isMeasurement = true ∧ s.state ≠ .measuring)) →
    ∃ t, exec i s = .next t ∧ t = s.ended .programmingError t

/-- Phase `SETTLE`: with 10 ms elapsed the read follows and the wait is on the trace; before that a
step lets time pass, and without time passing nothing happens. No transport call is issued (R33,
R186). Time in microseconds is the model's choice (log entry 7). -/
def Obligations.SettleWaits : Prop :=
  ∀ (s : State) (e : Nat), s.inFlight = none → s.state = .measuring → s.phase = .settle →
    s.settleT = some e →
    (10000 ≤ e → step s = .next { s with
      phase := .read
      settleT := none
      trace := s.trace ++ [.wait e] }) ∧
    (∀ d rest, e < 10000 → s.timePassing = d :: rest → step s = .next { s with
      settleT := some (e + d)
      timePassing := rest }) ∧
    (e < 10000 → s.timePassing = [] → step s = .next s)

/-- The settle wait ends once enough time passes, however it is cut up, and lasts at least 10 ms
(R186, R262). -/
def Obligations.SettleEnds : Prop :=
  ∀ (s : State) (e : Nat), s.inFlight = none → s.state = .measuring → s.phase = .settle →
    s.settleT = some e → 10000 ≤ e + s.timePassing.sum →
    ∃ (k : Nat) (t : State) (waited : Nat), core.run k s = .next t ∧ 10000 ≤ waited ∧ waited ≤ e + s.timePassing.sum ∧
      t = { s with
        phase := .read
        settleT := none
        timePassing := t.timePassing
        trace := s.trace ++ [.wait waited] }

/-- Phase `READ`: six bytes go to the decoder; any other count ends the `READ` with
`ReadLengthError` and that count; `error` ends it with count 0 and `ERR_XPORT = 1`; without an answer
the phase is kept (R187, R253, R197). A count above 255 has no representation in `ERR_ACTUAL` (log
entry 9). -/
def Obligations.ReadPhase : Prop :=
  ∀ (s : State) (h : Handle), s.inFlight = none → s.state = .measuring → s.phase = .read →
    s.handle = some h → s.settleT = none →
    (∀ b0 b1 b2 b3 b4 b5 rest, s.readAnswers = .data [b0, b1, b2, b3, b4, b5] :: rest →
      step s = .next { s with
        phase := .decode
        frame := ⟨b0, b1, b2, b3, b4, b5⟩
        frameCnt := 6
        readAnswers := rest
        outstanding := none
        trace := s.traceWith (.readBytes h 6) }) ∧
    (∀ bytes rest, s.readAnswers = .data bytes :: rest → bytes.length ≠ 6 →
      ∃ t, step s = .next t ∧
        t = ({ s with
          state := .opened
          phase := .idle
          readAnswers := rest
          trace := s.traceWith (.readBytes h 6) }.scratchOf t).ended .readLengthError t ∧
        t.errExpected = 6 ∧ t.errXport = false ∧
        (bytes.length ≤ 255 → t.errActual = BitVec.ofNat 8 bytes.length)) ∧
    (∀ rest, s.readAnswers = .error :: rest →
      ∃ t, step s = .next t ∧
        t = ({ s with
          state := .opened
          phase := .idle
          readAnswers := rest
          trace := s.traceWith (.readBytes h 6) }.scratchOf t).ended .readLengthError t ∧
        t.errExpected = 6 ∧ t.errActual = 0 ∧ t.errXport = true) ∧
    (s.readAnswers = [] → step s = .next { s with
      outstanding := some (.readBytes h 6)
      trace := s.traceWith (.readBytes h 6) })

/-- Phase `DECODE`: the frame is decoded as R150 says, the results and `STATUS` are written together
with the return to `Open`, and no transport call is issued (R160, R188, R189). -/
def Obligations.DecodePhase : Prop :=
  ∀ s : State, s.inFlight = none → s.state = .measuring → s.phase = .decode → s.settleT = none →
    (∀ x y, decodeFrame s.table s.frame = .measurement x y →
      ∃ t, step s = .next t ∧
        t = ({ s with
          state := .opened
          phase := .idle
          valid := true
          temp := some x
          hum := some y }.scratchOf t).ended .ok t) ∧
    (∀ field e a, decodeFrame s.table s.frame = .checksumMismatch field e a →
      ∃ t, step s = .next t ∧
        t = ({ s with state := .opened, phase := .idle }.scratchOf t).ended .checksumMismatch t ∧
        t.errField = field ∧ t.errExpected = e ∧ t.errActual = a)

/-- A whole `READ`: an accepted trigger, at least 10 ms, six bytes with good checksums. It ends in
`Open` with both results, the trace shows write, wait and read in that order, and session and mode
are kept (R184 to R189, R200). -/
def Obligations.ReadRunsToMeasurement : Prop :=
  ∀ (s : State) (h : Handle) (d : Nat) (f : RawFrame) (x y : F64) (hosts : List Byte)
    (writes : List Int) (times : List Nat) (reads : List ReadAnswer),
    s.Between → s.NoneWaiting → s.state = .opened → s.handle = some h →
    s.mode ∈ [0xFD, 0xF6, 0xE0, 0x39, 0x3A, 0x32, 0x33, 0x2F, 0x30] →
    s.hostIn = 0x03 :: hosts → s.writeAnswers = 0 :: writes →
    s.timePassing = d :: times → 10000 ≤ d →
    s.readAnswers = .data [f.tHi, f.tLo, f.tCrc, f.hHi, f.hLo, f.hCrc] :: reads →
    decodeFrame s.table f = .measurement x y →
    ∃ t : State, core.run 6 s = .next t ∧
      t = ({ s with
        valid := true
        temp := some x
        hum := some y
        hostIn := hosts
        writeAnswers := writes
        timePassing := times
        readAnswers := reads
        trace := s.trace ++ [XportCall.writeByte h s.mode, XportCall.wait d, XportCall.readBytes h 6] }.scratchOf t).ended
          .ok t

/-- `SETMODE`: in `Open` a legal byte becomes the mode, any other is refused and the mode kept; in
`Closed` every byte is refused; no transport call in any case (R190). -/
def Obligations.SetmodeCompletes : Prop :=
  ∀ (s : State) (imm8 : Byte), s.Between →
    (s.state = .opened → imm8 ∈ [0xFD, 0xF6, 0xE0, 0x39, 0x3A, 0x32, 0x33, 0x2F, 0x30] →
      ∃ t, exec (.hostSetmode imm8) s = .next t ∧ t = { s with mode := imm8 }.ended .ok t) ∧
    (s.state = .opened → imm8 ∉ [0xFD, 0xF6, 0xE0, 0x39, 0x3A, 0x32, 0x33, 0x2F, 0x30] →
      ∃ t, exec (.hostSetmode imm8) s = .next t ∧ t = s.ended .programmingError t) ∧
    (s.state = .closed →
      ∃ t, exec (.hostSetmode imm8) s = .next t ∧ t = s.ended .programmingError t)

/-- `CLOSE` in `Open` releases the handle and goes to `Closed`, waiting for the transport if it must;
in `Closed` it ends `OK` and does nothing (R191, R192, R197). -/
def Obligations.CloseCompletes : Prop :=
  ∀ s : State,
    (∀ h n, s.state = .opened → s.handle = some h → s.closeAnswers = n + 1 →
      ∃ t, exec .hostClose s = .next t ∧
        t = { s with
          state := .closed
          handle := none
          closeAnswers := n
          trace := s.traceWith (.closeBus h) }.ended .ok t) ∧
    (∀ h, s.state = .opened → s.handle = some h → s.closeAnswers = 0 →
      exec .hostClose s = .next { s with
        inFlight := some .hostClose
        outstanding := some (.closeBus h)
        trace := s.traceWith (.closeBus h) }) ∧
    (s.state = .closed → ∃ t, exec .hostClose s = .next t ∧ t = s.ended .ok t)

/-- On a closed session `SRESET`, `READ` and `SETMODE` end with `ProgrammingError`, issue no transport
call and change nothing else; `OPEN` begins a session, and `CRC8` and `DECODE` stay legal (R193). -/
def Obligations.ClosedSessionMisuse : Prop :=
  ∀ s : State, s.Between → s.state = .closed →
    (∀ i : Instr, (i = .hostSreset ∨ i = .hostRead ∨ ∃ m, i = .hostSetmode m) →
      ∃ t, exec i s = .next t ∧ t = s.ended .programmingError t) ∧
    (∀ bus addr mode h rest, isMeasurementMode mode = true → s.openAnswers = some h :: rest →
      ∃ t, exec (.hostOpen bus addr mode) s = .next t ∧ t.state = .opened ∧ t.status = .ok) ∧
    (∀ data, ∃ t, exec (.hostCrc8 data) s = .next t ∧ t.status = .ok) ∧
    (∀ f0 f1 f2 f3 f4 f5, ∃ t, exec (.hostDecode f0 f1 f2 f3 f4 f5) s = .next t ∧
      (t.status = .ok ∨ t.status = .checksumMismatch))

/-! ### Whole-machine rules -/

/-- In `Measuring` no host operation is accepted: presented, it changes nothing, and no step takes
bytes from the host port (R181, R198). -/
def Obligations.MeasuringAcceptsNothing : Prop :=
  (∀ (s : State) (i : Instr), s.state = .measuring → i.isHost = true → exec i s = .next s) ∧
  (∀ s t : State, s.state = .measuring → s.inFlight = none → step s = .next t →
    t.hostIn = s.hostIn)

/-- Only a successful `OPEN` or `SETMODE` changes the mode (R195). -/
def Obligations.ModePersists : Prop :=
  ∀ s t : State, step s = .next t → t.mode ≠ s.mode →
    t.status = .ok ∧ isMeasurementMode t.mode = true ∧
    ∃ u, (∃ bus addr, fetch s = .instr (.hostOpen bus addr t.mode) u ∧ u.state = .closed) ∨
      (fetch s = .instr (.hostSetmode t.mode) u ∧ u.state = .opened)

/-- `SRESET`, `SETMODE`, `CRC8` and `DECODE` never write `STATE` (R21). -/
def Obligations.StateKeptByOtherOperations : Prop :=
  ∀ (s t : State) (i : Instr),
    (i = .hostSreset ∨ (∃ m, i = .hostSetmode m) ∨ (∃ d, i = .hostCrc8 d) ∨
      ∃ f0 f1 f2 f3 f4 f5, i = .hostDecode f0 f1 f2 f3 f4 f5) →
    exec i s = .next t → t.state = s.state

/-- A step issues at most one transport call (or one wait), after everything issued before, and takes
nothing off the trace (R65, R69, R196). -/
def Obligations.OneCallPerStep : Prop :=
  ∀ s t : State, step s = .next t → t.trace = s.trace ∨ ∃ c, t.trace = s.trace ++ [c]

/-- A host operation that ends with `ProgrammingError` has issued no transport call and consumed no
answer (R255). -/
def Obligations.ProgrammingErrorTouchesNoTransport : Prop :=
  ∀ (s t : State) (i : Instr), i.isHost = true → exec i s = .next t →
    t.status = .programmingError → t.outstanding = none →
    t.trace = s.trace ∧ t.openAnswers = s.openAnswers ∧ t.writeAnswers = s.writeAnswers ∧
      t.readAnswers = s.readAnswers ∧ t.closeAnswers = s.closeAnswers

/-- Every way out of `Measuring` leads to `Open` and `IDLE`, with the handle and the mode kept
(R189). -/
def Obligations.LeavingMeasuring : Prop :=
  ∀ s t : State, s.Inv → s.HoldOk → s.state = .measuring → step s = .next t →
    t.state ≠ .measuring →
    t.state = .opened ∧ t.phase = .idle ∧ t.handle = s.handle ∧ t.mode = s.mode ∧
      (t.valid = true ↔ t.status = .ok)

/-- The host never reads a measurement that is not valid, nor a detail `STATUS` does not define (R30,
R32, R300). -/
def Obligations.HostReadsOnlyDefinedRegisters : Prop :=
  ∀ s : State,
    (s.valid = false → (hostView s).temp = none ∧ (hostView s).hum = none) ∧
    (s.status ≠ .checksumMismatch → (hostView s).errField = none) ∧
    (s.status ≠ .readLengthError → (hostView s).errXport = none) ∧
    (s.status ≠ .checksumMismatch → s.status ≠ .readLengthError →
      (hostView s).errExpected = none ∧ (hostView s).errActual = none)

/-- An operation whose transport call is never answered waits for ever: no step leaves it (R197). -/
def Obligations.UnansweredCallHoldsForEver : Prop :=
  ∀ (s : State) (k : Nat), s.Inv → s.Waiting → s.openAnswers = [] → s.writeAnswers = [] →
    s.readAnswers = [] → s.closeAnswers = 0 → core.run k s = .next s

/-- From a state that meets the invariants of R37 the machine never stops. -/
def Obligations.NoStopFromInvariantStates : Prop :=
  ∀ s : State, s.Inv → ∃ t, step s = .next t

/-- Every step keeps the invariants (a) to (f) of R37. -/
def Obligations.StepKeepsInvariants : Prop :=
  ∀ s t : State, s.Inv → step s = .next t → t.Inv

/-- Every step keeps the hold discipline: what waits for the transport is one of the calls the rules
issue, and it is the only one (R69 b, R197). -/
def Obligations.StepKeepsHoldDiscipline : Prop :=
  ∀ s t : State, s.Inv → s.HoldOk → step s = .next t → t.HoldOk

/-- Every step keeps the order write, wait of at least 10 ms, read on the trace, and no byte but the
ten commands is ever written (R70, R241). -/
def Obligations.StepKeepsTransportOrder : Prop :=
  ∀ s t : State, s.Inv → s.HoldOk → s.OrderOk → step s = .next t → t.OrderOk

/-- Every step keeps the balance of handles: each handle `open` returned is passed to `close` at most
once, and is then no longer held (R199). -/
def Obligations.StepKeepsHandleBalance : Prop :=
  ∀ s t : State, s.Inv → s.HoldOk → s.ReleaseOk → step s = .next t → t.ReleaseOk

/-- `PHASE` advances only in the order `WRITE`, `SETTLE`, `READ`, `DECODE`, `IDLE`, or to `IDLE` where
the step raises an error, which neither `SETTLE` nor a held step does (R22, R186). -/
def Obligations.PhaseAdvancesInOrder : Prop :=
  ∀ s t : State, s.Inv → step s = .next t → t.phase ≠ s.phase →
    (s.phase = .idle → t.phase = .write) ∧
    (s.phase = .write → t.phase = .settle ∨ (t.phase = .idle ∧ t.status = .commandError)) ∧
    (s.phase = .settle → t.phase = .read) ∧
    (s.phase = .read → t.phase = .decode ∨ (t.phase = .idle ∧ t.status = .readLengthError)) ∧
    (s.phase = .decode → t.phase = .idle)

/-- Only a successful `OPEN` writes `CFG_BUS` and `CFG_ADDR` (R24). -/
def Obligations.ConfigurationPersists : Prop :=
  ∀ s t : State, step s = .next t → (t.cfgBus ≠ s.cfgBus ∨ t.cfgAddr ≠ s.cfgAddr) →
    t.status = .ok ∧
    ∃ mode u, fetch s = .instr (.hostOpen t.cfgBus t.cfgAddr mode) u ∧ u.state = .closed

/-- A `CRC8` result stays in `CRC_ACC` until a `CRC8`, `DECODE` or `READ` is accepted (R27). -/
def Obligations.ChecksumResultPersists : Prop :=
  ∀ s t : State, s.state ≠ .measuring → step s = .next t → t.crcAcc ≠ s.crcAcc →
    ∃ i u, fetch s = .instr i u ∧
      ((∃ d, i = .hostCrc8 d) ∨ (∃ f0 f1 f2 f3 f4 f5, i = .hostDecode f0 f1 f2 f3 f4 f5) ∨
        (i = .hostRead ∧ s.state = .opened))
end

