-- ==== Sys2Proof/Laws/Crc.lean ====
section
/-!
SUPPORT. The small lemmas of the CRC engine: iteration, table lookup, fold.
-/

namespace Sys2Proof.Machine

/-- Looking up a built table is `crc8_byte` (R26, R120). -/
@[simp] theorem look_buildTable (p b : Byte) :
    CrcTable.look (buildTable p) b = crc8Byte b p := by
  simp only [CrcTable.look, buildTable, Vector.get, Fin.cast]
  simp

theorem xor_cancel_right_both (x y p : Byte) : x ^^^ y = (x ^^^ p) ^^^ (y ^^^ p) := by
  rw [BitVec.xor_comm y p, BitVec.xor_assoc, ← BitVec.xor_assoc p p, BitVec.xor_self,
    BitVec.zero_xor]

/-- One iteration is linear over exclusive-or (R132). -/
theorem crcShift_xor (p a b : Byte) :
    crcShift p (a ^^^ b) = crcShift p a ^^^ crcShift p b := by
  unfold crcShift
  rw [BitVec.getLsbD_xor, BitVec.shiftLeft_xor_distrib]
  generalize a <<< 1 = x, b <<< 1 = y
  cases a.getLsbD 7 <;> cases b.getLsbD 7 <;>
    simp only [Bool.xor_false, Bool.xor_true, Bool.not_true, Bool.not_false, if_true,
      Bool.false_eq_true, if_false]
  · ac_rfl
  · ac_rfl
  · exact xor_cancel_right_both x y p

@[simp] theorem checksum_nil (t : CrcTable) (i : Byte) : checksum t [] i = i := rfl

@[simp] theorem checksum_cons (t : CrcTable) (b : Byte) (d : List Byte) (i : Byte) :
    checksum t (b :: d) i = checksum t d (CrcTable.look t (i ^^^ b)) := rfl

/-- A checksum goes on over what is appended (R124). -/
theorem checksum_append (t : CrcTable) (d e : List Byte) (i : Byte) :
    checksum t (d ++ e) i = checksum t e (checksum t d i) := by
  simp [checksum, List.foldl_append]

/-- The validator says `pass` exactly on equality (R127). -/
theorem validate_eq_pass {t : CrcTable} {hi lo emb : Byte} :
    validate t hi lo emb = .pass ↔ checksum t [hi, lo] Config.params.init = emb := by
  unfold validate
  split <;> simp_all

end Sys2Proof.Machine
end

