-- ==== Sys2Proof/Laws/State.lean ====
section
/-!
SUPPORT. One lemma for each field of the state under each state update, true by `rfl`, so that no
later proof unfolds a record update.
-/

namespace Sys2Proof.Machine

/-! ### `issue` -/

@[simp] theorem issue_state (c : XportCall) (s : State) : (issue c s).state = s.state := rfl
@[simp] theorem issue_phase (c : XportCall) (s : State) : (issue c s).phase = s.phase := rfl
@[simp] theorem issue_handle (c : XportCall) (s : State) : (issue c s).handle = s.handle := rfl
@[simp] theorem issue_cfgBus (c : XportCall) (s : State) : (issue c s).cfgBus = s.cfgBus := rfl
@[simp] theorem issue_cfgAddr (c : XportCall) (s : State) : (issue c s).cfgAddr = s.cfgAddr := rfl
@[simp] theorem issue_mode (c : XportCall) (s : State) : (issue c s).mode = s.mode := rfl
@[simp] theorem issue_table (c : XportCall) (s : State) : (issue c s).table = s.table := rfl
@[simp] theorem issue_crcAcc (c : XportCall) (s : State) : (issue c s).crcAcc = s.crcAcc := rfl
@[simp] theorem issue_frame (c : XportCall) (s : State) : (issue c s).frame = s.frame := rfl
@[simp] theorem issue_frameCnt (c : XportCall) (s : State) :
    (issue c s).frameCnt = s.frameCnt := rfl
@[simp] theorem issue_rawT (c : XportCall) (s : State) : (issue c s).rawT = s.rawT := rfl
@[simp] theorem issue_rawH (c : XportCall) (s : State) : (issue c s).rawH = s.rawH := rfl
@[simp] theorem issue_temp (c : XportCall) (s : State) : (issue c s).temp = s.temp := rfl
@[simp] theorem issue_hum (c : XportCall) (s : State) : (issue c s).hum = s.hum := rfl
@[simp] theorem issue_valid (c : XportCall) (s : State) : (issue c s).valid = s.valid := rfl
@[simp] theorem issue_status (c : XportCall) (s : State) : (issue c s).status = s.status := rfl
@[simp] theorem issue_errField (c : XportCall) (s : State) :
    (issue c s).errField = s.errField := rfl
@[simp] theorem issue_errExpected (c : XportCall) (s : State) :
    (issue c s).errExpected = s.errExpected := rfl
@[simp] theorem issue_errActual (c : XportCall) (s : State) :
    (issue c s).errActual = s.errActual := rfl
@[simp] theorem issue_errXport (c : XportCall) (s : State) :
    (issue c s).errXport = s.errXport := rfl
@[simp] theorem issue_settleT (c : XportCall) (s : State) : (issue c s).settleT = s.settleT := rfl
@[simp] theorem issue_hostIn (c : XportCall) (s : State) : (issue c s).hostIn = s.hostIn := rfl
@[simp] theorem issue_openAnswers (c : XportCall) (s : State) :
    (issue c s).openAnswers = s.openAnswers := rfl
@[simp] theorem issue_writeAnswers (c : XportCall) (s : State) :
    (issue c s).writeAnswers = s.writeAnswers := rfl
@[simp] theorem issue_readAnswers (c : XportCall) (s : State) :
    (issue c s).readAnswers = s.readAnswers := rfl
@[simp] theorem issue_closeAnswers (c : XportCall) (s : State) :
    (issue c s).closeAnswers = s.closeAnswers := rfl
@[simp] theorem issue_timePassing (c : XportCall) (s : State) :
    (issue c s).timePassing = s.timePassing := rfl
@[simp] theorem issue_inFlight (c : XportCall) (s : State) :
    (issue c s).inFlight = s.inFlight := rfl
@[simp] theorem issue_outstanding (c : XportCall) (s : State) :
    (issue c s).outstanding = some c := rfl
@[simp] theorem issue_trace (c : XportCall) (s : State) :
    (issue c s).trace = if s.outstanding = some c then s.trace else s.trace ++ [c] := rfl
@[simp] theorem issue_granted (c : XportCall) (s : State) : (issue c s).granted = s.granted := rfl
@[simp] theorem issue_draw (c : XportCall) (s : State) : (issue c s).draw = s.draw := rfl

/-! ### `answered` -/

@[simp] theorem answered_state (s : State) : (answered s).state = s.state := rfl
@[simp] theorem answered_phase (s : State) : (answered s).phase = s.phase := rfl
@[simp] theorem answered_handle (s : State) : (answered s).handle = s.handle := rfl
@[simp] theorem answered_cfgBus (s : State) : (answered s).cfgBus = s.cfgBus := rfl
@[simp] theorem answered_cfgAddr (s : State) : (answered s).cfgAddr = s.cfgAddr := rfl
@[simp] theorem answered_mode (s : State) : (answered s).mode = s.mode := rfl
@[simp] theorem answered_table (s : State) : (answered s).table = s.table := rfl
@[simp] theorem answered_crcAcc (s : State) : (answered s).crcAcc = s.crcAcc := rfl
@[simp] theorem answered_frame (s : State) : (answered s).frame = s.frame := rfl
@[simp] theorem answered_frameCnt (s : State) : (answered s).frameCnt = s.frameCnt := rfl
@[simp] theorem answered_rawT (s : State) : (answered s).rawT = s.rawT := rfl
@[simp] theorem answered_rawH (s : State) : (answered s).rawH = s.rawH := rfl
@[simp] theorem answered_temp (s : State) : (answered s).temp = s.temp := rfl
@[simp] theorem answered_hum (s : State) : (answered s).hum = s.hum := rfl
@[simp] theorem answered_valid (s : State) : (answered s).valid = s.valid := rfl
@[simp] theorem answered_status (s : State) : (answered s).status = s.status := rfl
@[simp] theorem answered_errField (s : State) : (answered s).errField = s.errField := rfl
@[simp] theorem answered_errExpected (s : State) : (answered s).errExpected = s.errExpected := rfl
@[simp] theorem answered_errActual (s : State) : (answered s).errActual = s.errActual := rfl
@[simp] theorem answered_errXport (s : State) : (answered s).errXport = s.errXport := rfl
@[simp] theorem answered_settleT (s : State) : (answered s).settleT = s.settleT := rfl
@[simp] theorem answered_hostIn (s : State) : (answered s).hostIn = s.hostIn := rfl
@[simp] theorem answered_openAnswers (s : State) : (answered s).openAnswers = s.openAnswers := rfl
@[simp] theorem answered_writeAnswers (s : State) :
    (answered s).writeAnswers = s.writeAnswers := rfl
@[simp] theorem answered_readAnswers (s : State) : (answered s).readAnswers = s.readAnswers := rfl
@[simp] theorem answered_closeAnswers (s : State) :
    (answered s).closeAnswers = s.closeAnswers := rfl
@[simp] theorem answered_timePassing (s : State) : (answered s).timePassing = s.timePassing := rfl
@[simp] theorem answered_inFlight (s : State) : (answered s).inFlight = s.inFlight := rfl
@[simp] theorem answered_outstanding (s : State) : (answered s).outstanding = none := rfl
@[simp] theorem answered_trace (s : State) : (answered s).trace = s.trace := rfl
@[simp] theorem answered_granted (s : State) : (answered s).granted = s.granted := rfl
@[simp] theorem answered_draw (s : State) : (answered s).draw = s.draw := rfl

/-! ### `hold` -/

@[simp] theorem hold_state (i : Instr) (s : State) : (hold i s).state = s.state := rfl
@[simp] theorem hold_phase (i : Instr) (s : State) : (hold i s).phase = s.phase := rfl
@[simp] theorem hold_handle (i : Instr) (s : State) : (hold i s).handle = s.handle := rfl
@[simp] theorem hold_cfgBus (i : Instr) (s : State) : (hold i s).cfgBus = s.cfgBus := rfl
@[simp] theorem hold_cfgAddr (i : Instr) (s : State) : (hold i s).cfgAddr = s.cfgAddr := rfl
@[simp] theorem hold_mode (i : Instr) (s : State) : (hold i s).mode = s.mode := rfl
@[simp] theorem hold_table (i : Instr) (s : State) : (hold i s).table = s.table := rfl
@[simp] theorem hold_crcAcc (i : Instr) (s : State) : (hold i s).crcAcc = s.crcAcc := rfl
@[simp] theorem hold_frame (i : Instr) (s : State) : (hold i s).frame = s.frame := rfl
@[simp] theorem hold_frameCnt (i : Instr) (s : State) : (hold i s).frameCnt = s.frameCnt := rfl
@[simp] theorem hold_rawT (i : Instr) (s : State) : (hold i s).rawT = s.rawT := rfl
@[simp] theorem hold_rawH (i : Instr) (s : State) : (hold i s).rawH = s.rawH := rfl
@[simp] theorem hold_temp (i : Instr) (s : State) : (hold i s).temp = s.temp := rfl
@[simp] theorem hold_hum (i : Instr) (s : State) : (hold i s).hum = s.hum := rfl
@[simp] theorem hold_valid (i : Instr) (s : State) : (hold i s).valid = s.valid := rfl
@[simp] theorem hold_status (i : Instr) (s : State) : (hold i s).status = s.status := rfl
@[simp] theorem hold_errField (i : Instr) (s : State) : (hold i s).errField = s.errField := rfl
@[simp] theorem hold_errExpected (i : Instr) (s : State) :
    (hold i s).errExpected = s.errExpected := rfl
@[simp] theorem hold_errActual (i : Instr) (s : State) : (hold i s).errActual = s.errActual := rfl
@[simp] theorem hold_errXport (i : Instr) (s : State) : (hold i s).errXport = s.errXport := rfl
@[simp] theorem hold_settleT (i : Instr) (s : State) : (hold i s).settleT = s.settleT := rfl
@[simp] theorem hold_hostIn (i : Instr) (s : State) : (hold i s).hostIn = s.hostIn := rfl
@[simp] theorem hold_openAnswers (i : Instr) (s : State) :
    (hold i s).openAnswers = s.openAnswers := rfl
@[simp] theorem hold_writeAnswers (i : Instr) (s : State) :
    (hold i s).writeAnswers = s.writeAnswers := rfl
@[simp] theorem hold_readAnswers (i : Instr) (s : State) :
    (hold i s).readAnswers = s.readAnswers := rfl
@[simp] theorem hold_closeAnswers (i : Instr) (s : State) :
    (hold i s).closeAnswers = s.closeAnswers := rfl
@[simp] theorem hold_timePassing (i : Instr) (s : State) :
    (hold i s).timePassing = s.timePassing := rfl
@[simp] theorem hold_inFlight (i : Instr) (s : State) : (hold i s).inFlight = some i := rfl
@[simp] theorem hold_outstanding (i : Instr) (s : State) :
    (hold i s).outstanding = s.outstanding := rfl
@[simp] theorem hold_trace (i : Instr) (s : State) : (hold i s).trace = s.trace := rfl
@[simp] theorem hold_granted (i : Instr) (s : State) : (hold i s).granted = s.granted := rfl
@[simp] theorem hold_draw (i : Instr) (s : State) : (hold i s).draw = s.draw := rfl

/-! ### `finish` -/

@[simp] theorem finish_state (st : Status) (d : Detail) (s : State) :
    (finish st d s).state = s.state := rfl
@[simp] theorem finish_phase (st : Status) (d : Detail) (s : State) :
    (finish st d s).phase = s.phase := rfl
@[simp] theorem finish_handle (st : Status) (d : Detail) (s : State) :
    (finish st d s).handle = s.handle := rfl
@[simp] theorem finish_cfgBus (st : Status) (d : Detail) (s : State) :
    (finish st d s).cfgBus = s.cfgBus := rfl
@[simp] theorem finish_cfgAddr (st : Status) (d : Detail) (s : State) :
    (finish st d s).cfgAddr = s.cfgAddr := rfl
@[simp] theorem finish_mode (st : Status) (d : Detail) (s : State) :
    (finish st d s).mode = s.mode := rfl
@[simp] theorem finish_table (st : Status) (d : Detail) (s : State) :
    (finish st d s).table = s.table := rfl
@[simp] theorem finish_crcAcc (st : Status) (d : Detail) (s : State) :
    (finish st d s).crcAcc = s.crcAcc := rfl
@[simp] theorem finish_frame (st : Status) (d : Detail) (s : State) :
    (finish st d s).frame = s.frame := rfl
@[simp] theorem finish_frameCnt (st : Status) (d : Detail) (s : State) :
    (finish st d s).frameCnt = s.frameCnt := rfl
@[simp] theorem finish_rawT (st : Status) (d : Detail) (s : State) :
    (finish st d s).rawT = s.rawT := rfl
@[simp] theorem finish_rawH (st : Status) (d : Detail) (s : State) :
    (finish st d s).rawH = s.rawH := rfl
@[simp] theorem finish_temp (st : Status) (d : Detail) (s : State) :
    (finish st d s).temp = s.temp := rfl
@[simp] theorem finish_hum (st : Status) (d : Detail) (s : State) :
    (finish st d s).hum = s.hum := rfl
@[simp] theorem finish_valid (st : Status) (d : Detail) (s : State) :
    (finish st d s).valid = s.valid := rfl
@[simp] theorem finish_status (st : Status) (d : Detail) (s : State) :
    (finish st d s).status = st := rfl
@[simp] theorem finish_errField (st : Status) (d : Detail) (s : State) :
    (finish st d s).errField = d.field.getD (Config.freeErrField s.draw) := rfl
@[simp] theorem finish_errExpected (st : Status) (d : Detail) (s : State) :
    (finish st d s).errExpected = d.expected.getD (Config.freeErrExpected s.draw) := rfl
@[simp] theorem finish_errActual (st : Status) (d : Detail) (s : State) :
    (finish st d s).errActual = d.actual.getD (Config.freeErrActual s.draw) := rfl
@[simp] theorem finish_errXport (st : Status) (d : Detail) (s : State) :
    (finish st d s).errXport = d.xport.getD (Config.freeErrXport s.draw) := rfl
@[simp] theorem finish_settleT (st : Status) (d : Detail) (s : State) :
    (finish st d s).settleT = s.settleT := rfl
@[simp] theorem finish_hostIn (st : Status) (d : Detail) (s : State) :
    (finish st d s).hostIn = s.hostIn := rfl
@[simp] theorem finish_openAnswers (st : Status) (d : Detail) (s : State) :
    (finish st d s).openAnswers = s.openAnswers := rfl
@[simp] theorem finish_writeAnswers (st : Status) (d : Detail) (s : State) :
    (finish st d s).writeAnswers = s.writeAnswers := rfl
@[simp] theorem finish_readAnswers (st : Status) (d : Detail) (s : State) :
    (finish st d s).readAnswers = s.readAnswers := rfl
@[simp] theorem finish_closeAnswers (st : Status) (d : Detail) (s : State) :
    (finish st d s).closeAnswers = s.closeAnswers := rfl
@[simp] theorem finish_timePassing (st : Status) (d : Detail) (s : State) :
    (finish st d s).timePassing = s.timePassing := rfl
@[simp] theorem finish_inFlight (st : Status) (d : Detail) (s : State) :
    (finish st d s).inFlight = none := rfl
@[simp] theorem finish_outstanding (st : Status) (d : Detail) (s : State) :
    (finish st d s).outstanding = none := rfl
@[simp] theorem finish_trace (st : Status) (d : Detail) (s : State) :
    (finish st d s).trace = s.trace := rfl
@[simp] theorem finish_granted (st : Status) (d : Detail) (s : State) :
    (finish st d s).granted = s.granted := rfl
@[simp] theorem finish_draw (st : Status) (d : Detail) (s : State) :
    (finish st d s).draw = s.draw + 1 := rfl

/-! ### `finishOk` -/

@[simp] theorem finishOk_state (s : State) : (finishOk s).state = s.state := rfl
@[simp] theorem finishOk_phase (s : State) : (finishOk s).phase = s.phase := rfl
@[simp] theorem finishOk_handle (s : State) : (finishOk s).handle = s.handle := rfl
@[simp] theorem finishOk_cfgBus (s : State) : (finishOk s).cfgBus = s.cfgBus := rfl
@[simp] theorem finishOk_cfgAddr (s : State) : (finishOk s).cfgAddr = s.cfgAddr := rfl
@[simp] theorem finishOk_mode (s : State) : (finishOk s).mode = s.mode := rfl
@[simp] theorem finishOk_table (s : State) : (finishOk s).table = s.table := rfl
@[simp] theorem finishOk_crcAcc (s : State) : (finishOk s).crcAcc = s.crcAcc := rfl
@[simp] theorem finishOk_frame (s : State) : (finishOk s).frame = s.frame := rfl
@[simp] theorem finishOk_frameCnt (s : State) : (finishOk s).frameCnt = s.frameCnt := rfl
@[simp] theorem finishOk_rawT (s : State) : (finishOk s).rawT = s.rawT := rfl
@[simp] theorem finishOk_rawH (s : State) : (finishOk s).rawH = s.rawH := rfl
@[simp] theorem finishOk_temp (s : State) : (finishOk s).temp = s.temp := rfl
@[simp] theorem finishOk_hum (s : State) : (finishOk s).hum = s.hum := rfl
@[simp] theorem finishOk_valid (s : State) : (finishOk s).valid = s.valid := rfl
@[simp] theorem finishOk_status (s : State) : (finishOk s).status = .ok := rfl
@[simp] theorem finishOk_errField (s : State) :
    (finishOk s).errField = Config.freeErrField s.draw := rfl
@[simp] theorem finishOk_errExpected (s : State) :
    (finishOk s).errExpected = Config.freeErrExpected s.draw := rfl
@[simp] theorem finishOk_errActual (s : State) :
    (finishOk s).errActual = Config.freeErrActual s.draw := rfl
@[simp] theorem finishOk_errXport (s : State) :
    (finishOk s).errXport = Config.freeErrXport s.draw := rfl
@[simp] theorem finishOk_settleT (s : State) : (finishOk s).settleT = s.settleT := rfl
@[simp] theorem finishOk_hostIn (s : State) : (finishOk s).hostIn = s.hostIn := rfl
@[simp] theorem finishOk_openAnswers (s : State) : (finishOk s).openAnswers = s.openAnswers := rfl
@[simp] theorem finishOk_writeAnswers (s : State) :
    (finishOk s).writeAnswers = s.writeAnswers := rfl
@[simp] theorem finishOk_readAnswers (s : State) : (finishOk s).readAnswers = s.readAnswers := rfl
@[simp] theorem finishOk_closeAnswers (s : State) :
    (finishOk s).closeAnswers = s.closeAnswers := rfl
@[simp] theorem finishOk_timePassing (s : State) : (finishOk s).timePassing = s.timePassing := rfl
@[simp] theorem finishOk_inFlight (s : State) : (finishOk s).inFlight = none := rfl
@[simp] theorem finishOk_outstanding (s : State) : (finishOk s).outstanding = none := rfl
@[simp] theorem finishOk_trace (s : State) : (finishOk s).trace = s.trace := rfl
@[simp] theorem finishOk_granted (s : State) : (finishOk s).granted = s.granted := rfl
@[simp] theorem finishOk_draw (s : State) : (finishOk s).draw = s.draw + 1 := rfl

/-! ### `leaveMeasuring` -/

@[simp] theorem leaveMeasuring_state (s : State) :
    (leaveMeasuring s).state = if s.state = .measuring then .opened else s.state := rfl
@[simp] theorem leaveMeasuring_phase (s : State) : (leaveMeasuring s).phase = .idle := rfl
@[simp] theorem leaveMeasuring_handle (s : State) : (leaveMeasuring s).handle = s.handle := rfl
@[simp] theorem leaveMeasuring_cfgBus (s : State) : (leaveMeasuring s).cfgBus = s.cfgBus := rfl
@[simp] theorem leaveMeasuring_cfgAddr (s : State) : (leaveMeasuring s).cfgAddr = s.cfgAddr := rfl
@[simp] theorem leaveMeasuring_mode (s : State) : (leaveMeasuring s).mode = s.mode := rfl
@[simp] theorem leaveMeasuring_table (s : State) : (leaveMeasuring s).table = s.table := rfl
@[simp] theorem leaveMeasuring_crcAcc (s : State) : (leaveMeasuring s).crcAcc = s.crcAcc := rfl
@[simp] theorem leaveMeasuring_frame (s : State) : (leaveMeasuring s).frame = s.frame := rfl
@[simp] theorem leaveMeasuring_frameCnt (s : State) :
    (leaveMeasuring s).frameCnt = s.frameCnt := rfl
@[simp] theorem leaveMeasuring_rawT (s : State) : (leaveMeasuring s).rawT = s.rawT := rfl
@[simp] theorem leaveMeasuring_rawH (s : State) : (leaveMeasuring s).rawH = s.rawH := rfl
@[simp] theorem leaveMeasuring_temp (s : State) : (leaveMeasuring s).temp = s.temp := rfl
@[simp] theorem leaveMeasuring_hum (s : State) : (leaveMeasuring s).hum = s.hum := rfl
@[simp] theorem leaveMeasuring_valid (s : State) : (leaveMeasuring s).valid = s.valid := rfl
@[simp] theorem leaveMeasuring_status (s : State) : (leaveMeasuring s).status = s.status := rfl
@[simp] theorem leaveMeasuring_errField (s : State) :
    (leaveMeasuring s).errField = s.errField := rfl
@[simp] theorem leaveMeasuring_errExpected (s : State) :
    (leaveMeasuring s).errExpected = s.errExpected := rfl
@[simp] theorem leaveMeasuring_errActual (s : State) :
    (leaveMeasuring s).errActual = s.errActual := rfl
@[simp] theorem leaveMeasuring_errXport (s : State) :
    (leaveMeasuring s).errXport = s.errXport := rfl
@[simp] theorem leaveMeasuring_settleT (s : State) : (leaveMeasuring s).settleT = none := rfl
@[simp] theorem leaveMeasuring_hostIn (s : State) : (leaveMeasuring s).hostIn = s.hostIn := rfl
@[simp] theorem leaveMeasuring_openAnswers (s : State) :
    (leaveMeasuring s).openAnswers = s.openAnswers := rfl
@[simp] theorem leaveMeasuring_writeAnswers (s : State) :
    (leaveMeasuring s).writeAnswers = s.writeAnswers := rfl
@[simp] theorem leaveMeasuring_readAnswers (s : State) :
    (leaveMeasuring s).readAnswers = s.readAnswers := rfl
@[simp] theorem leaveMeasuring_closeAnswers (s : State) :
    (leaveMeasuring s).closeAnswers = s.closeAnswers := rfl
@[simp] theorem leaveMeasuring_timePassing (s : State) :
    (leaveMeasuring s).timePassing = s.timePassing := rfl
@[simp] theorem leaveMeasuring_inFlight (s : State) :
    (leaveMeasuring s).inFlight = s.inFlight := rfl
@[simp] theorem leaveMeasuring_outstanding (s : State) :
    (leaveMeasuring s).outstanding = s.outstanding := rfl
@[simp] theorem leaveMeasuring_trace (s : State) : (leaveMeasuring s).trace = s.trace := rfl
@[simp] theorem leaveMeasuring_granted (s : State) : (leaveMeasuring s).granted = s.granted := rfl
@[simp] theorem leaveMeasuring_draw (s : State) : (leaveMeasuring s).draw = s.draw := rfl

/-! ### `raise` -/

@[simp] theorem raise_state (e : Raised) (s : State) :
    (raise e s).state = if s.state = .measuring then .opened else s.state := rfl
@[simp] theorem raise_phase (e : Raised) (s : State) : (raise e s).phase = .idle := rfl
@[simp] theorem raise_handle (e : Raised) (s : State) : (raise e s).handle = s.handle := rfl
@[simp] theorem raise_cfgBus (e : Raised) (s : State) : (raise e s).cfgBus = s.cfgBus := rfl
@[simp] theorem raise_cfgAddr (e : Raised) (s : State) : (raise e s).cfgAddr = s.cfgAddr := rfl
@[simp] theorem raise_mode (e : Raised) (s : State) : (raise e s).mode = s.mode := rfl
@[simp] theorem raise_table (e : Raised) (s : State) : (raise e s).table = s.table := rfl
@[simp] theorem raise_crcAcc (e : Raised) (s : State) : (raise e s).crcAcc = s.crcAcc := rfl
@[simp] theorem raise_frame (e : Raised) (s : State) : (raise e s).frame = s.frame := rfl
@[simp] theorem raise_frameCnt (e : Raised) (s : State) : (raise e s).frameCnt = s.frameCnt := rfl
@[simp] theorem raise_rawT (e : Raised) (s : State) : (raise e s).rawT = s.rawT := rfl
@[simp] theorem raise_rawH (e : Raised) (s : State) : (raise e s).rawH = s.rawH := rfl
@[simp] theorem raise_temp (e : Raised) (s : State) : (raise e s).temp = s.temp := rfl
@[simp] theorem raise_hum (e : Raised) (s : State) : (raise e s).hum = s.hum := rfl
@[simp] theorem raise_valid (e : Raised) (s : State) : (raise e s).valid = s.valid := rfl
@[simp] theorem raise_status (e : Raised) (s : State) : (raise e s).status = e.status := rfl
@[simp] theorem raise_errField (e : Raised) (s : State) :
    (raise e s).errField = e.detail.field.getD (Config.freeErrField s.draw) := rfl
@[simp] theorem raise_errExpected (e : Raised) (s : State) :
    (raise e s).errExpected = e.detail.expected.getD (Config.freeErrExpected s.draw) := rfl
@[simp] theorem raise_errActual (e : Raised) (s : State) :
    (raise e s).errActual = e.detail.actual.getD (Config.freeErrActual s.draw) := rfl
@[simp] theorem raise_errXport (e : Raised) (s : State) :
    (raise e s).errXport = e.detail.xport.getD (Config.freeErrXport s.draw) := rfl
@[simp] theorem raise_settleT (e : Raised) (s : State) : (raise e s).settleT = none := rfl
@[simp] theorem raise_hostIn (e : Raised) (s : State) : (raise e s).hostIn = s.hostIn := rfl
@[simp] theorem raise_openAnswers (e : Raised) (s : State) :
    (raise e s).openAnswers = s.openAnswers := rfl
@[simp] theorem raise_writeAnswers (e : Raised) (s : State) :
    (raise e s).writeAnswers = s.writeAnswers := rfl
@[simp] theorem raise_readAnswers (e : Raised) (s : State) :
    (raise e s).readAnswers = s.readAnswers := rfl
@[simp] theorem raise_closeAnswers (e : Raised) (s : State) :
    (raise e s).closeAnswers = s.closeAnswers := rfl
@[simp] theorem raise_timePassing (e : Raised) (s : State) :
    (raise e s).timePassing = s.timePassing := rfl
@[simp] theorem raise_inFlight (e : Raised) (s : State) : (raise e s).inFlight = none := rfl
@[simp] theorem raise_outstanding (e : Raised) (s : State) : (raise e s).outstanding = none := rfl
@[simp] theorem raise_trace (e : Raised) (s : State) : (raise e s).trace = s.trace := rfl
@[simp] theorem raise_granted (e : Raised) (s : State) : (raise e s).granted = s.granted := rfl
@[simp] theorem raise_draw (e : Raised) (s : State) : (raise e s).draw = s.draw + 1 := rfl

/-! ### `clearMeasurement` -/

@[simp] theorem clearMeasurement_state (s : State) : (clearMeasurement s).state = s.state := rfl
@[simp] theorem clearMeasurement_phase (s : State) : (clearMeasurement s).phase = s.phase := rfl
@[simp] theorem clearMeasurement_handle (s : State) : (clearMeasurement s).handle = s.handle := rfl
@[simp] theorem clearMeasurement_cfgBus (s : State) : (clearMeasurement s).cfgBus = s.cfgBus := rfl
@[simp] theorem clearMeasurement_cfgAddr (s : State) :
    (clearMeasurement s).cfgAddr = s.cfgAddr := rfl
@[simp] theorem clearMeasurement_mode (s : State) : (clearMeasurement s).mode = s.mode := rfl
@[simp] theorem clearMeasurement_table (s : State) : (clearMeasurement s).table = s.table := rfl
@[simp] theorem clearMeasurement_crcAcc (s : State) : (clearMeasurement s).crcAcc = s.crcAcc := rfl
@[simp] theorem clearMeasurement_frame (s : State) : (clearMeasurement s).frame = s.frame := rfl
@[simp] theorem clearMeasurement_frameCnt (s : State) :
    (clearMeasurement s).frameCnt = s.frameCnt := rfl
@[simp] theorem clearMeasurement_rawT (s : State) : (clearMeasurement s).rawT = s.rawT := rfl
@[simp] theorem clearMeasurement_rawH (s : State) : (clearMeasurement s).rawH = s.rawH := rfl
@[simp] theorem clearMeasurement_temp (s : State) : (clearMeasurement s).temp = none := rfl
@[simp] theorem clearMeasurement_hum (s : State) : (clearMeasurement s).hum = none := rfl
@[simp] theorem clearMeasurement_valid (s : State) : (clearMeasurement s).valid = false := rfl
@[simp] theorem clearMeasurement_status (s : State) : (clearMeasurement s).status = s.status := rfl
@[simp] theorem clearMeasurement_errField (s : State) :
    (clearMeasurement s).errField = s.errField := rfl
@[simp] theorem clearMeasurement_errExpected (s : State) :
    (clearMeasurement s).errExpected = s.errExpected := rfl
@[simp] theorem clearMeasurement_errActual (s : State) :
    (clearMeasurement s).errActual = s.errActual := rfl
@[simp] theorem clearMeasurement_errXport (s : State) :
    (clearMeasurement s).errXport = s.errXport := rfl
@[simp] theorem clearMeasurement_settleT (s : State) :
    (clearMeasurement s).settleT = s.settleT := rfl
@[simp] theorem clearMeasurement_hostIn (s : State) : (clearMeasurement s).hostIn = s.hostIn := rfl
@[simp] theorem clearMeasurement_openAnswers (s : State) :
    (clearMeasurement s).openAnswers = s.openAnswers := rfl
@[simp] theorem clearMeasurement_writeAnswers (s : State) :
    (clearMeasurement s).writeAnswers = s.writeAnswers := rfl
@[simp] theorem clearMeasurement_readAnswers (s : State) :
    (clearMeasurement s).readAnswers = s.readAnswers := rfl
@[simp] theorem clearMeasurement_closeAnswers (s : State) :
    (clearMeasurement s).closeAnswers = s.closeAnswers := rfl
@[simp] theorem clearMeasurement_timePassing (s : State) :
    (clearMeasurement s).timePassing = s.timePassing := rfl
@[simp] theorem clearMeasurement_inFlight (s : State) :
    (clearMeasurement s).inFlight = s.inFlight := rfl
@[simp] theorem clearMeasurement_outstanding (s : State) :
    (clearMeasurement s).outstanding = s.outstanding := rfl
@[simp] theorem clearMeasurement_trace (s : State) : (clearMeasurement s).trace = s.trace := rfl
@[simp] theorem clearMeasurement_granted (s : State) :
    (clearMeasurement s).granted = s.granted := rfl
@[simp] theorem clearMeasurement_draw (s : State) : (clearMeasurement s).draw = s.draw := rfl

/-! ### `setMeasurement` -/

@[simp] theorem setMeasurement_state (x y : F64) (s : State) :
    (setMeasurement x y s).state = s.state := rfl
@[simp] theorem setMeasurement_phase (x y : F64) (s : State) :
    (setMeasurement x y s).phase = s.phase := rfl
@[simp] theorem setMeasurement_handle (x y : F64) (s : State) :
    (setMeasurement x y s).handle = s.handle := rfl
@[simp] theorem setMeasurement_cfgBus (x y : F64) (s : State) :
    (setMeasurement x y s).cfgBus = s.cfgBus := rfl
@[simp] theorem setMeasurement_cfgAddr (x y : F64) (s : State) :
    (setMeasurement x y s).cfgAddr = s.cfgAddr := rfl
@[simp] theorem setMeasurement_mode (x y : F64) (s : State) :
    (setMeasurement x y s).mode = s.mode := rfl
@[simp] theorem setMeasurement_table (x y : F64) (s : State) :
    (setMeasurement x y s).table = s.table := rfl
@[simp] theorem setMeasurement_crcAcc (x y : F64) (s : State) :
    (setMeasurement x y s).crcAcc = s.crcAcc := rfl
@[simp] theorem setMeasurement_frame (x y : F64) (s : State) :
    (setMeasurement x y s).frame = s.frame := rfl
@[simp] theorem setMeasurement_frameCnt (x y : F64) (s : State) :
    (setMeasurement x y s).frameCnt = s.frameCnt := rfl
@[simp] theorem setMeasurement_rawT (x y : F64) (s : State) :
    (setMeasurement x y s).rawT = s.rawT := rfl
@[simp] theorem setMeasurement_rawH (x y : F64) (s : State) :
    (setMeasurement x y s).rawH = s.rawH := rfl
@[simp] theorem setMeasurement_temp (x y : F64) (s : State) :
    (setMeasurement x y s).temp = some x := rfl
@[simp] theorem setMeasurement_hum (x y : F64) (s : State) :
    (setMeasurement x y s).hum = some y := rfl
@[simp] theorem setMeasurement_valid (x y : F64) (s : State) :
    (setMeasurement x y s).valid = true := rfl
@[simp] theorem setMeasurement_status (x y : F64) (s : State) :
    (setMeasurement x y s).status = s.status := rfl
@[simp] theorem setMeasurement_errField (x y : F64) (s : State) :
    (setMeasurement x y s).errField = s.errField := rfl
@[simp] theorem setMeasurement_errExpected (x y : F64) (s : State) :
    (setMeasurement x y s).errExpected = s.errExpected := rfl
@[simp] theorem setMeasurement_errActual (x y : F64) (s : State) :
    (setMeasurement x y s).errActual = s.errActual := rfl
@[simp] theorem setMeasurement_errXport (x y : F64) (s : State) :
    (setMeasurement x y s).errXport = s.errXport := rfl
@[simp] theorem setMeasurement_settleT (x y : F64) (s : State) :
    (setMeasurement x y s).settleT = s.settleT := rfl
@[simp] theorem setMeasurement_hostIn (x y : F64) (s : State) :
    (setMeasurement x y s).hostIn = s.hostIn := rfl
@[simp] theorem setMeasurement_openAnswers (x y : F64) (s : State) :
    (setMeasurement x y s).openAnswers = s.openAnswers := rfl
@[simp] theorem setMeasurement_writeAnswers (x y : F64) (s : State) :
    (setMeasurement x y s).writeAnswers = s.writeAnswers := rfl
@[simp] theorem setMeasurement_readAnswers (x y : F64) (s : State) :
    (setMeasurement x y s).readAnswers = s.readAnswers := rfl
@[simp] theorem setMeasurement_closeAnswers (x y : F64) (s : State) :
    (setMeasurement x y s).closeAnswers = s.closeAnswers := rfl
@[simp] theorem setMeasurement_timePassing (x y : F64) (s : State) :
    (setMeasurement x y s).timePassing = s.timePassing := rfl
@[simp] theorem setMeasurement_inFlight (x y : F64) (s : State) :
    (setMeasurement x y s).inFlight = s.inFlight := rfl
@[simp] theorem setMeasurement_outstanding (x y : F64) (s : State) :
    (setMeasurement x y s).outstanding = s.outstanding := rfl
@[simp] theorem setMeasurement_trace (x y : F64) (s : State) :
    (setMeasurement x y s).trace = s.trace := rfl
@[simp] theorem setMeasurement_granted (x y : F64) (s : State) :
    (setMeasurement x y s).granted = s.granted := rfl
@[simp] theorem setMeasurement_draw (x y : F64) (s : State) :
    (setMeasurement x y s).draw = s.draw := rfl

/-! ### `loseScratch` -/

@[simp] theorem loseScratch_state (s : State) : (loseScratch s).state = s.state := rfl
@[simp] theorem loseScratch_phase (s : State) : (loseScratch s).phase = s.phase := rfl
@[simp] theorem loseScratch_handle (s : State) : (loseScratch s).handle = s.handle := rfl
@[simp] theorem loseScratch_cfgBus (s : State) : (loseScratch s).cfgBus = s.cfgBus := rfl
@[simp] theorem loseScratch_cfgAddr (s : State) : (loseScratch s).cfgAddr = s.cfgAddr := rfl
@[simp] theorem loseScratch_mode (s : State) : (loseScratch s).mode = s.mode := rfl
@[simp] theorem loseScratch_table (s : State) : (loseScratch s).table = s.table := rfl
@[simp] theorem loseScratch_crcAcc (s : State) :
    (loseScratch s).crcAcc = Config.freeCrcAcc s.draw := rfl
@[simp] theorem loseScratch_frame (s : State) :
    (loseScratch s).frame = Config.freeFrame s.draw := rfl
@[simp] theorem loseScratch_frameCnt (s : State) :
    (loseScratch s).frameCnt = Config.freeFrameCnt s.draw := rfl
@[simp] theorem loseScratch_rawT (s : State) : (loseScratch s).rawT = Config.freeRawT s.draw := rfl
@[simp] theorem loseScratch_rawH (s : State) : (loseScratch s).rawH = Config.freeRawH s.draw := rfl
@[simp] theorem loseScratch_temp (s : State) : (loseScratch s).temp = s.temp := rfl
@[simp] theorem loseScratch_hum (s : State) : (loseScratch s).hum = s.hum := rfl
@[simp] theorem loseScratch_valid (s : State) : (loseScratch s).valid = s.valid := rfl
@[simp] theorem loseScratch_status (s : State) : (loseScratch s).status = s.status := rfl
@[simp] theorem loseScratch_errField (s : State) : (loseScratch s).errField = s.errField := rfl
@[simp] theorem loseScratch_errExpected (s : State) :
    (loseScratch s).errExpected = s.errExpected := rfl
@[simp] theorem loseScratch_errActual (s : State) : (loseScratch s).errActual = s.errActual := rfl
@[simp] theorem loseScratch_errXport (s : State) : (loseScratch s).errXport = s.errXport := rfl
@[simp] theorem loseScratch_settleT (s : State) : (loseScratch s).settleT = s.settleT := rfl
@[simp] theorem loseScratch_hostIn (s : State) : (loseScratch s).hostIn = s.hostIn := rfl
@[simp] theorem loseScratch_openAnswers (s : State) :
    (loseScratch s).openAnswers = s.openAnswers := rfl
@[simp] theorem loseScratch_writeAnswers (s : State) :
    (loseScratch s).writeAnswers = s.writeAnswers := rfl
@[simp] theorem loseScratch_readAnswers (s : State) :
    (loseScratch s).readAnswers = s.readAnswers := rfl
@[simp] theorem loseScratch_closeAnswers (s : State) :
    (loseScratch s).closeAnswers = s.closeAnswers := rfl
@[simp] theorem loseScratch_timePassing (s : State) :
    (loseScratch s).timePassing = s.timePassing := rfl
@[simp] theorem loseScratch_inFlight (s : State) : (loseScratch s).inFlight = s.inFlight := rfl
@[simp] theorem loseScratch_outstanding (s : State) :
    (loseScratch s).outstanding = s.outstanding := rfl
@[simp] theorem loseScratch_trace (s : State) : (loseScratch s).trace = s.trace := rfl
@[simp] theorem loseScratch_granted (s : State) : (loseScratch s).granted = s.granted := rfl
@[simp] theorem loseScratch_draw (s : State) : (loseScratch s).draw = s.draw + 1 := rfl

/-! ### `startRead` -/

@[simp] theorem startRead_state (s : State) : (startRead s).state = .measuring := rfl
@[simp] theorem startRead_phase (s : State) : (startRead s).phase = .write := rfl
@[simp] theorem startRead_handle (s : State) : (startRead s).handle = s.handle := rfl
@[simp] theorem startRead_cfgBus (s : State) : (startRead s).cfgBus = s.cfgBus := rfl
@[simp] theorem startRead_cfgAddr (s : State) : (startRead s).cfgAddr = s.cfgAddr := rfl
@[simp] theorem startRead_mode (s : State) : (startRead s).mode = s.mode := rfl
@[simp] theorem startRead_table (s : State) : (startRead s).table = s.table := rfl
@[simp] theorem startRead_crcAcc (s : State) :
    (startRead s).crcAcc = Config.freeCrcAcc s.draw := rfl
@[simp] theorem startRead_frame (s : State) : (startRead s).frame = s.frame := rfl
@[simp] theorem startRead_frameCnt (s : State) : (startRead s).frameCnt = s.frameCnt := rfl
@[simp] theorem startRead_rawT (s : State) : (startRead s).rawT = s.rawT := rfl
@[simp] theorem startRead_rawH (s : State) : (startRead s).rawH = s.rawH := rfl
@[simp] theorem startRead_temp (s : State) : (startRead s).temp = none := rfl
@[simp] theorem startRead_hum (s : State) : (startRead s).hum = none := rfl
@[simp] theorem startRead_valid (s : State) : (startRead s).valid = false := rfl
@[simp] theorem startRead_status (s : State) : (startRead s).status = s.status := rfl
@[simp] theorem startRead_errField (s : State) : (startRead s).errField = s.errField := rfl
@[simp] theorem startRead_errExpected (s : State) : (startRead s).errExpected = s.errExpected := rfl
@[simp] theorem startRead_errActual (s : State) : (startRead s).errActual = s.errActual := rfl
@[simp] theorem startRead_errXport (s : State) : (startRead s).errXport = s.errXport := rfl
@[simp] theorem startRead_settleT (s : State) : (startRead s).settleT = s.settleT := rfl
@[simp] theorem startRead_hostIn (s : State) : (startRead s).hostIn = s.hostIn := rfl
@[simp] theorem startRead_openAnswers (s : State) : (startRead s).openAnswers = s.openAnswers := rfl
@[simp] theorem startRead_writeAnswers (s : State) :
    (startRead s).writeAnswers = s.writeAnswers := rfl
@[simp] theorem startRead_readAnswers (s : State) : (startRead s).readAnswers = s.readAnswers := rfl
@[simp] theorem startRead_closeAnswers (s : State) :
    (startRead s).closeAnswers = s.closeAnswers := rfl
@[simp] theorem startRead_timePassing (s : State) : (startRead s).timePassing = s.timePassing := rfl
@[simp] theorem startRead_inFlight (s : State) : (startRead s).inFlight = s.inFlight := rfl
@[simp] theorem startRead_outstanding (s : State) : (startRead s).outstanding = s.outstanding := rfl
@[simp] theorem startRead_trace (s : State) : (startRead s).trace = s.trace := rfl
@[simp] theorem startRead_granted (s : State) : (startRead s).granted = s.granted := rfl
@[simp] theorem startRead_draw (s : State) : (startRead s).draw = s.draw + 1 := rfl

/-! ### `enterSettle` -/

@[simp] theorem enterSettle_state (s : State) : (enterSettle s).state = s.state := rfl
@[simp] theorem enterSettle_phase (s : State) : (enterSettle s).phase = .settle := rfl
@[simp] theorem enterSettle_handle (s : State) : (enterSettle s).handle = s.handle := rfl
@[simp] theorem enterSettle_cfgBus (s : State) : (enterSettle s).cfgBus = s.cfgBus := rfl
@[simp] theorem enterSettle_cfgAddr (s : State) : (enterSettle s).cfgAddr = s.cfgAddr := rfl
@[simp] theorem enterSettle_mode (s : State) : (enterSettle s).mode = s.mode := rfl
@[simp] theorem enterSettle_table (s : State) : (enterSettle s).table = s.table := rfl
@[simp] theorem enterSettle_crcAcc (s : State) : (enterSettle s).crcAcc = s.crcAcc := rfl
@[simp] theorem enterSettle_frame (s : State) : (enterSettle s).frame = s.frame := rfl
@[simp] theorem enterSettle_frameCnt (s : State) : (enterSettle s).frameCnt = s.frameCnt := rfl
@[simp] theorem enterSettle_rawT (s : State) : (enterSettle s).rawT = s.rawT := rfl
@[simp] theorem enterSettle_rawH (s : State) : (enterSettle s).rawH = s.rawH := rfl
@[simp] theorem enterSettle_temp (s : State) : (enterSettle s).temp = s.temp := rfl
@[simp] theorem enterSettle_hum (s : State) : (enterSettle s).hum = s.hum := rfl
@[simp] theorem enterSettle_valid (s : State) : (enterSettle s).valid = s.valid := rfl
@[simp] theorem enterSettle_status (s : State) : (enterSettle s).status = s.status := rfl
@[simp] theorem enterSettle_errField (s : State) : (enterSettle s).errField = s.errField := rfl
@[simp] theorem enterSettle_errExpected (s : State) :
    (enterSettle s).errExpected = s.errExpected := rfl
@[simp] theorem enterSettle_errActual (s : State) : (enterSettle s).errActual = s.errActual := rfl
@[simp] theorem enterSettle_errXport (s : State) : (enterSettle s).errXport = s.errXport := rfl
@[simp] theorem enterSettle_settleT (s : State) : (enterSettle s).settleT = some 0 := rfl
@[simp] theorem enterSettle_hostIn (s : State) : (enterSettle s).hostIn = s.hostIn := rfl
@[simp] theorem enterSettle_openAnswers (s : State) :
    (enterSettle s).openAnswers = s.openAnswers := rfl
@[simp] theorem enterSettle_writeAnswers (s : State) :
    (enterSettle s).writeAnswers = s.writeAnswers := rfl
@[simp] theorem enterSettle_readAnswers (s : State) :
    (enterSettle s).readAnswers = s.readAnswers := rfl
@[simp] theorem enterSettle_closeAnswers (s : State) :
    (enterSettle s).closeAnswers = s.closeAnswers := rfl
@[simp] theorem enterSettle_timePassing (s : State) :
    (enterSettle s).timePassing = s.timePassing := rfl
@[simp] theorem enterSettle_inFlight (s : State) : (enterSettle s).inFlight = s.inFlight := rfl
@[simp] theorem enterSettle_outstanding (s : State) :
    (enterSettle s).outstanding = s.outstanding := rfl
@[simp] theorem enterSettle_trace (s : State) : (enterSettle s).trace = s.trace := rfl
@[simp] theorem enterSettle_granted (s : State) : (enterSettle s).granted = s.granted := rfl
@[simp] theorem enterSettle_draw (s : State) : (enterSettle s).draw = s.draw := rfl

/-! ### `startSession` -/

@[simp] theorem startSession_state (h : Handle) (b a m : Byte) (s : State) :
    (startSession h b a m s).state = .opened := rfl
@[simp] theorem startSession_phase (h : Handle) (b a m : Byte) (s : State) :
    (startSession h b a m s).phase = s.phase := rfl
@[simp] theorem startSession_handle (h : Handle) (b a m : Byte) (s : State) :
    (startSession h b a m s).handle = some h := rfl
@[simp] theorem startSession_cfgBus (h : Handle) (b a m : Byte) (s : State) :
    (startSession h b a m s).cfgBus = b := rfl
@[simp] theorem startSession_cfgAddr (h : Handle) (b a m : Byte) (s : State) :
    (startSession h b a m s).cfgAddr = a := rfl
@[simp] theorem startSession_mode (h : Handle) (b a m : Byte) (s : State) :
    (startSession h b a m s).mode = m := rfl
@[simp] theorem startSession_table (h : Handle) (b a m : Byte) (s : State) :
    (startSession h b a m s).table = s.table := rfl
@[simp] theorem startSession_crcAcc (h : Handle) (b a m : Byte) (s : State) :
    (startSession h b a m s).crcAcc = s.crcAcc := rfl
@[simp] theorem startSession_frame (h : Handle) (b a m : Byte) (s : State) :
    (startSession h b a m s).frame = s.frame := rfl
@[simp] theorem startSession_frameCnt (h : Handle) (b a m : Byte) (s : State) :
    (startSession h b a m s).frameCnt = s.frameCnt := rfl
@[simp] theorem startSession_rawT (h : Handle) (b a m : Byte) (s : State) :
    (startSession h b a m s).rawT = s.rawT := rfl
@[simp] theorem startSession_rawH (h : Handle) (b a m : Byte) (s : State) :
    (startSession h b a m s).rawH = s.rawH := rfl
@[simp] theorem startSession_temp (h : Handle) (b a m : Byte) (s : State) :
    (startSession h b a m s).temp = s.temp := rfl
@[simp] theorem startSession_hum (h : Handle) (b a m : Byte) (s : State) :
    (startSession h b a m s).hum = s.hum := rfl
@[simp] theorem startSession_valid (h : Handle) (b a m : Byte) (s : State) :
    (startSession h b a m s).valid = s.valid := rfl
@[simp] theorem startSession_status (h : Handle) (b a m : Byte) (s : State) :
    (startSession h b a m s).status = s.status := rfl
@[simp] theorem startSession_errField (h : Handle) (b a m : Byte) (s : State) :
    (startSession h b a m s).errField = s.errField := rfl
@[simp] theorem startSession_errExpected (h : Handle) (b a m : Byte) (s : State) :
    (startSession h b a m s).errExpected = s.errExpected := rfl
@[simp] theorem startSession_errActual (h : Handle) (b a m : Byte) (s : State) :
    (startSession h b a m s).errActual = s.errActual := rfl
@[simp] theorem startSession_errXport (h : Handle) (b a m : Byte) (s : State) :
    (startSession h b a m s).errXport = s.errXport := rfl
@[simp] theorem startSession_settleT (h : Handle) (b a m : Byte) (s : State) :
    (startSession h b a m s).settleT = s.settleT := rfl
@[simp] theorem startSession_hostIn (h : Handle) (b a m : Byte) (s : State) :
    (startSession h b a m s).hostIn = s.hostIn := rfl
@[simp] theorem startSession_openAnswers (h : Handle) (b a m : Byte) (s : State) :
    (startSession h b a m s).openAnswers = s.openAnswers := rfl
@[simp] theorem startSession_writeAnswers (h : Handle) (b a m : Byte) (s : State) :
    (startSession h b a m s).writeAnswers = s.writeAnswers := rfl
@[simp] theorem startSession_readAnswers (h : Handle) (b a m : Byte) (s : State) :
    (startSession h b a m s).readAnswers = s.readAnswers := rfl
@[simp] theorem startSession_closeAnswers (h : Handle) (b a m : Byte) (s : State) :
    (startSession h b a m s).closeAnswers = s.closeAnswers := rfl
@[simp] theorem startSession_timePassing (h : Handle) (b a m : Byte) (s : State) :
    (startSession h b a m s).timePassing = s.timePassing := rfl
@[simp] theorem startSession_inFlight (h : Handle) (b a m : Byte) (s : State) :
    (startSession h b a m s).inFlight = s.inFlight := rfl
@[simp] theorem startSession_outstanding (h : Handle) (b a m : Byte) (s : State) :
    (startSession h b a m s).outstanding = s.outstanding := rfl
@[simp] theorem startSession_trace (h : Handle) (b a m : Byte) (s : State) :
    (startSession h b a m s).trace = s.trace := rfl
@[simp] theorem startSession_granted (h : Handle) (b a m : Byte) (s : State) :
    (startSession h b a m s).granted = s.granted := rfl
@[simp] theorem startSession_draw (h : Handle) (b a m : Byte) (s : State) :
    (startSession h b a m s).draw = s.draw := rfl

/-! ### `loadFrame` -/

@[simp] theorem loadFrame_state (f : RawFrame) (s : State) : (loadFrame f s).state = s.state := rfl
@[simp] theorem loadFrame_phase (f : RawFrame) (s : State) : (loadFrame f s).phase = .decode := rfl
@[simp] theorem loadFrame_handle (f : RawFrame) (s : State) :
    (loadFrame f s).handle = s.handle := rfl
@[simp] theorem loadFrame_cfgBus (f : RawFrame) (s : State) :
    (loadFrame f s).cfgBus = s.cfgBus := rfl
@[simp] theorem loadFrame_cfgAddr (f : RawFrame) (s : State) :
    (loadFrame f s).cfgAddr = s.cfgAddr := rfl
@[simp] theorem loadFrame_mode (f : RawFrame) (s : State) : (loadFrame f s).mode = s.mode := rfl
@[simp] theorem loadFrame_table (f : RawFrame) (s : State) : (loadFrame f s).table = s.table := rfl
@[simp] theorem loadFrame_crcAcc (f : RawFrame) (s : State) :
    (loadFrame f s).crcAcc = s.crcAcc := rfl
@[simp] theorem loadFrame_frame (f : RawFrame) (s : State) : (loadFrame f s).frame = f := rfl
@[simp] theorem loadFrame_frameCnt (f : RawFrame) (s : State) :
    (loadFrame f s).frameCnt = Config.params.frameLen := rfl
@[simp] theorem loadFrame_rawT (f : RawFrame) (s : State) : (loadFrame f s).rawT = s.rawT := rfl
@[simp] theorem loadFrame_rawH (f : RawFrame) (s : State) : (loadFrame f s).rawH = s.rawH := rfl
@[simp] theorem loadFrame_temp (f : RawFrame) (s : State) : (loadFrame f s).temp = s.temp := rfl
@[simp] theorem loadFrame_hum (f : RawFrame) (s : State) : (loadFrame f s).hum = s.hum := rfl
@[simp] theorem loadFrame_valid (f : RawFrame) (s : State) : (loadFrame f s).valid = s.valid := rfl
@[simp] theorem loadFrame_status (f : RawFrame) (s : State) :
    (loadFrame f s).status = s.status := rfl
@[simp] theorem loadFrame_errField (f : RawFrame) (s : State) :
    (loadFrame f s).errField = s.errField := rfl
@[simp] theorem loadFrame_errExpected (f : RawFrame) (s : State) :
    (loadFrame f s).errExpected = s.errExpected := rfl
@[simp] theorem loadFrame_errActual (f : RawFrame) (s : State) :
    (loadFrame f s).errActual = s.errActual := rfl
@[simp] theorem loadFrame_errXport (f : RawFrame) (s : State) :
    (loadFrame f s).errXport = s.errXport := rfl
@[simp] theorem loadFrame_settleT (f : RawFrame) (s : State) :
    (loadFrame f s).settleT = s.settleT := rfl
@[simp] theorem loadFrame_hostIn (f : RawFrame) (s : State) :
    (loadFrame f s).hostIn = s.hostIn := rfl
@[simp] theorem loadFrame_openAnswers (f : RawFrame) (s : State) :
    (loadFrame f s).openAnswers = s.openAnswers := rfl
@[simp] theorem loadFrame_writeAnswers (f : RawFrame) (s : State) :
    (loadFrame f s).writeAnswers = s.writeAnswers := rfl
@[simp] theorem loadFrame_readAnswers (f : RawFrame) (s : State) :
    (loadFrame f s).readAnswers = s.readAnswers := rfl
@[simp] theorem loadFrame_closeAnswers (f : RawFrame) (s : State) :
    (loadFrame f s).closeAnswers = s.closeAnswers := rfl
@[simp] theorem loadFrame_timePassing (f : RawFrame) (s : State) :
    (loadFrame f s).timePassing = s.timePassing := rfl
@[simp] theorem loadFrame_inFlight (f : RawFrame) (s : State) :
    (loadFrame f s).inFlight = s.inFlight := rfl
@[simp] theorem loadFrame_outstanding (f : RawFrame) (s : State) :
    (loadFrame f s).outstanding = s.outstanding := rfl
@[simp] theorem loadFrame_trace (f : RawFrame) (s : State) : (loadFrame f s).trace = s.trace := rfl
@[simp] theorem loadFrame_granted (f : RawFrame) (s : State) :
    (loadFrame f s).granted = s.granted := rfl
@[simp] theorem loadFrame_draw (f : RawFrame) (s : State) : (loadFrame f s).draw = s.draw := rfl

/-! ### `loadRaw` -/

@[simp] theorem loadRaw_state (s : State) : (loadRaw s).state = s.state := rfl
@[simp] theorem loadRaw_phase (s : State) : (loadRaw s).phase = s.phase := rfl
@[simp] theorem loadRaw_handle (s : State) : (loadRaw s).handle = s.handle := rfl
@[simp] theorem loadRaw_cfgBus (s : State) : (loadRaw s).cfgBus = s.cfgBus := rfl
@[simp] theorem loadRaw_cfgAddr (s : State) : (loadRaw s).cfgAddr = s.cfgAddr := rfl
@[simp] theorem loadRaw_mode (s : State) : (loadRaw s).mode = s.mode := rfl
@[simp] theorem loadRaw_table (s : State) : (loadRaw s).table = s.table := rfl
@[simp] theorem loadRaw_crcAcc (s : State) : (loadRaw s).crcAcc = s.crcAcc := rfl
@[simp] theorem loadRaw_frame (s : State) : (loadRaw s).frame = s.frame := rfl
@[simp] theorem loadRaw_frameCnt (s : State) : (loadRaw s).frameCnt = s.frameCnt := rfl
@[simp] theorem loadRaw_rawT (s : State) : (loadRaw s).rawT = word16 s.frame.tHi s.frame.tLo := rfl
@[simp] theorem loadRaw_rawH (s : State) : (loadRaw s).rawH = word16 s.frame.hHi s.frame.hLo := rfl
@[simp] theorem loadRaw_temp (s : State) : (loadRaw s).temp = s.temp := rfl
@[simp] theorem loadRaw_hum (s : State) : (loadRaw s).hum = s.hum := rfl
@[simp] theorem loadRaw_valid (s : State) : (loadRaw s).valid = s.valid := rfl
@[simp] theorem loadRaw_status (s : State) : (loadRaw s).status = s.status := rfl
@[simp] theorem loadRaw_errField (s : State) : (loadRaw s).errField = s.errField := rfl
@[simp] theorem loadRaw_errExpected (s : State) : (loadRaw s).errExpected = s.errExpected := rfl
@[simp] theorem loadRaw_errActual (s : State) : (loadRaw s).errActual = s.errActual := rfl
@[simp] theorem loadRaw_errXport (s : State) : (loadRaw s).errXport = s.errXport := rfl
@[simp] theorem loadRaw_settleT (s : State) : (loadRaw s).settleT = s.settleT := rfl
@[simp] theorem loadRaw_hostIn (s : State) : (loadRaw s).hostIn = s.hostIn := rfl
@[simp] theorem loadRaw_openAnswers (s : State) : (loadRaw s).openAnswers = s.openAnswers := rfl
@[simp] theorem loadRaw_writeAnswers (s : State) : (loadRaw s).writeAnswers = s.writeAnswers := rfl
@[simp] theorem loadRaw_readAnswers (s : State) : (loadRaw s).readAnswers = s.readAnswers := rfl
@[simp] theorem loadRaw_closeAnswers (s : State) : (loadRaw s).closeAnswers = s.closeAnswers := rfl
@[simp] theorem loadRaw_timePassing (s : State) : (loadRaw s).timePassing = s.timePassing := rfl
@[simp] theorem loadRaw_inFlight (s : State) : (loadRaw s).inFlight = s.inFlight := rfl
@[simp] theorem loadRaw_outstanding (s : State) : (loadRaw s).outstanding = s.outstanding := rfl
@[simp] theorem loadRaw_trace (s : State) : (loadRaw s).trace = s.trace := rfl
@[simp] theorem loadRaw_granted (s : State) : (loadRaw s).granted = s.granted := rfl
@[simp] theorem loadRaw_draw (s : State) : (loadRaw s).draw = s.draw := rfl

end Sys2Proof.Machine
end

