-- ==== Sys2Proof/Laws/Ops.lean ====
section
/-!
SUPPORT. For each shared operation, once, everything it can do; proofs cite these and do not unfold
the operation.
-/

namespace Sys2Proof.Machine

/-! ### The transport primitives -/

theorem xportOpen_held {bus addr : Byte} {s : State} (h : s.openAnswers = []) :
    xportOpen bus addr s = .held (issue (.openBus bus addr) s) := by
  simp [xportOpen, h]

theorem xportOpen_answered {bus addr : Byte} {s : State} {a : Option Handle}
    {rest : List (Option Handle)} (h : s.openAnswers = a :: rest) :
    xportOpen bus addr s = .answered a
      { answered (issue (.openBus bus addr) s) with
        openAnswers := rest
        granted := s.granted ++ a.toList } := by
  simp [xportOpen, h]

theorem memWrite_held {h : Handle} {b : Byte} {s : State} (hw : s.writeAnswers = []) :
    memWrite h b s = .held (issue (.writeByte h b) s) := by
  simp [memWrite, hw]

theorem memWrite_answered {h : Handle} {b : Byte} {s : State} {a : Int} {rest : List Int}
    (hw : s.writeAnswers = a :: rest) :
    memWrite h b s = .answered a
      { answered (issue (.writeByte h b) s) with writeAnswers := rest } := by
  simp [memWrite, hw]

theorem memRead_held {h : Handle} {n : Byte} {s : State} (hr : s.readAnswers = []) :
    memRead h n s = .held (issue (.readBytes h n) s) := by
  simp [memRead, hr]

theorem memRead_answered {h : Handle} {n : Byte} {s : State} {a : ReadAnswer}
    {rest : List ReadAnswer} (hr : s.readAnswers = a :: rest) :
    memRead h n s = .answered a
      { answered (issue (.readBytes h n) s) with readAnswers := rest } := by
  simp [memRead, hr]

theorem xportClose_held {h : Handle} {s : State} (hc : s.closeAnswers = 0) :
    xportClose h s = .held (issue (.closeBus h) s) := by
  simp [xportClose, hc]

theorem xportClose_answered {h : Handle} {s : State} {n : Nat} (hc : s.closeAnswers = n + 1) :
    xportClose h s = .answered ()
      { answered (issue (.closeBus h) s) with closeAnswers := n } := by
  simp [xportClose, hc]

/-! ### The checksum through `CRC_ACC` -/

theorem crcStep_foldl (data : List Byte) (s : State) :
    data.foldl (fun s b => crcStep b s) s =
      { s with crcAcc := checksum s.table data s.crcAcc } := by
  induction data generalizing s with
  | nil => rfl
  | cons b d ih => rw [List.foldl_cons, ih]; rfl

/-- The fold on the register is the pure checksum of the same bytes (R122 to R124). -/
theorem crcFold_eq (data : List Byte) (s : State) :
    crcFold data s = { s with crcAcc := checksum s.table data Config.params.init } := by
  rw [crcFold, crcStep_foldl]; rfl

/-! ### The decode of `FRAME` -/

theorem validateTemperature_pass {s : State} (h : s.crcAcc = s.frame.tCrc) :
    validateTemperature s = validateHumidity (crcFold [s.frame.hHi, s.frame.hLo] s) := if_pos h

theorem validateTemperature_fail {s : State} (h : s.crcAcc ≠ s.frame.tCrc) :
    validateTemperature s =
      raise (.checksum .temperature s.crcAcc s.frame.tCrc) (loseScratch s) := if_neg h

theorem validateHumidity_pass {s : State} (h : s.crcAcc = s.frame.hCrc) :
    validateHumidity s = reportMeasurement (loadRaw s) := if_pos h

theorem validateHumidity_fail {s : State} (h : s.crcAcc ≠ s.frame.hCrc) :
    validateHumidity s =
      raise (.checksum .humidity s.crcAcc s.frame.hCrc) (loseScratch s) := if_neg h

@[simp] theorem crcFold_frame (d : List Byte) (s : State) : (crcFold d s).frame = s.frame := by
  rw [crcFold_eq]

@[simp] theorem crcFold_table (d : List Byte) (s : State) : (crcFold d s).table = s.table := by
  rw [crcFold_eq]

@[simp] theorem crcFold_draw (d : List Byte) (s : State) : (crcFold d s).draw = s.draw := by
  rw [crcFold_eq]

@[simp] theorem crcFold_crcAcc (d : List Byte) (s : State) :
    (crcFold d s).crcAcc = checksum s.table d Config.params.init := by
  rw [crcFold_eq]

/-- The state after a decode that passed both checks. -/
theorem decodeAndReport_measurement {s : State} {x y : F64}
    (h : decodeFrame s.table s.frame = .measurement x y) :
    ∃ t : State, t.draw = s.draw ∧ decodeAndReport s =
      finishOk (loseScratch (setMeasurement x y (leaveMeasuring t))) ∧
      t = { s with crcAcc := t.crcAcc, rawT := t.rawT, rawH := t.rawH } := by
  unfold decodeFrame at h
  split at h
  · cases h
  rename_i ht
  split at h
  · cases h
  rename_i hh
  injection h with hx hy
  subst hx hy
  rw [validate_eq_pass] at ht hh
  refine ⟨loadRaw (crcFold [s.frame.hHi, s.frame.hLo] (crcFold [s.frame.tHi, s.frame.tLo] s)), ?_⟩
  refine ⟨by simp, ?_, by simp [crcFold_eq, loadRaw]⟩
  rw [decodeAndReport, validateTemperature_pass (by simpa using ht), crcFold_frame,
    validateHumidity_pass (by simpa using hh), reportMeasurement, loadRaw_rawT, loadRaw_rawH]
  simp only [crcFold_frame]

/-- The state after a decode that failed a check. -/
theorem decodeAndReport_mismatch {s : State} {field : ErrField} {e a : Byte}
    (h : decodeFrame s.table s.frame = .checksumMismatch field e a) :
    ∃ c : Byte, decodeAndReport s =
      raise (.checksum field e a) (loseScratch { s with crcAcc := c }) := by
  unfold decodeFrame at h
  split at h
  · rename_i e' a' ht
    cases h
    unfold validate at ht
    split at ht
    · cases ht
    rename_i hne
    cases ht
    refine ⟨checksum s.table [s.frame.tHi, s.frame.tLo] Config.params.init, ?_⟩
    rw [decodeAndReport, validateTemperature_fail (by simpa using hne), crcFold_eq]
  rename_i ht
  split at h
  · rename_i e' a' hh
    cases h
    unfold validate at hh
    split at hh
    · cases hh
    rename_i hne
    cases hh
    rw [validate_eq_pass] at ht
    refine ⟨checksum s.table [s.frame.hHi, s.frame.hLo] Config.params.init, ?_⟩
    rw [decodeAndReport, validateTemperature_pass (by simpa using ht), crcFold_frame,
      validateHumidity_fail (by simpa using hne), crcFold_eq, crcFold_eq]
  · cases h

/-- Every frame is a measurement or a mismatch: a decode always reports one of the two (R150). -/
theorem decodeAndReport_cases (s : State) :
    (∃ x y, decodeFrame s.table s.frame = .measurement x y) ∨
      (∃ field e a, decodeFrame s.table s.frame = .checksumMismatch field e a) := by
  cases h : decodeFrame s.table s.frame with
  | measurement x y => exact .inl ⟨x, y, rfl⟩
  | checksumMismatch field e a => exact .inr ⟨field, e, a, rfl⟩

/-- A decode, however it ends, leaves the operation over and the sequencer idle; besides that it
writes only `VALID`, `TEMP`, `HUM`, `STATUS`, the detail registers and the scratch registers. -/
theorem decodeAndReport_form (s : State) :
    ∃ (t : State) (st : Status) (d : Detail),
      decodeAndReport s = finish st d (loseScratch (leaveMeasuring t)) ∧
      t = { s with
        crcAcc := t.crcAcc, rawT := t.rawT, rawH := t.rawH
        valid := t.valid, temp := t.temp, hum := t.hum } := by
  rcases decodeAndReport_cases s with ⟨x, y, h⟩ | ⟨field, e, a, h⟩
  · obtain ⟨t, _, hc, ht⟩ := decodeAndReport_measurement h
    refine ⟨setMeasurement x y t, .ok, {}, hc, ?_⟩
    rw [ht]
    rfl
  · obtain ⟨c, hc⟩ := decodeAndReport_mismatch h
    exact ⟨{ s with crcAcc := c }, _, _, hc, rfl⟩

@[simp] theorem decodeAndReport_hostIn (s : State) : (decodeAndReport s).hostIn = s.hostIn := by
  obtain ⟨t, st, d, h, ht⟩ := decodeAndReport_form s
  rw [h, ht]; rfl

@[simp] theorem decodeAndReport_mode (s : State) : (decodeAndReport s).mode = s.mode := by
  obtain ⟨t, st, d, h, ht⟩ := decodeAndReport_form s
  rw [h, ht]; rfl

@[simp] theorem decodeAndReport_handle (s : State) : (decodeAndReport s).handle = s.handle := by
  obtain ⟨t, st, d, h, ht⟩ := decodeAndReport_form s
  rw [h, ht]; rfl

@[simp] theorem decodeAndReport_cfgBus (s : State) : (decodeAndReport s).cfgBus = s.cfgBus := by
  obtain ⟨t, st, d, h, ht⟩ := decodeAndReport_form s
  rw [h, ht]; rfl

@[simp] theorem decodeAndReport_cfgAddr (s : State) : (decodeAndReport s).cfgAddr = s.cfgAddr := by
  obtain ⟨t, st, d, h, ht⟩ := decodeAndReport_form s
  rw [h, ht]; rfl

@[simp] theorem decodeAndReport_table (s : State) : (decodeAndReport s).table = s.table := by
  obtain ⟨t, st, d, h, ht⟩ := decodeAndReport_form s
  rw [h, ht]; rfl

@[simp] theorem decodeAndReport_trace (s : State) : (decodeAndReport s).trace = s.trace := by
  obtain ⟨t, st, d, h, ht⟩ := decodeAndReport_form s
  rw [h, ht]; rfl

@[simp] theorem decodeAndReport_granted (s : State) : (decodeAndReport s).granted = s.granted := by
  obtain ⟨t, st, d, h, ht⟩ := decodeAndReport_form s
  rw [h, ht]; rfl

@[simp] theorem decodeAndReport_openAnswers (s : State) : (decodeAndReport s).openAnswers = s.openAnswers := by
  obtain ⟨t, st, d, h, ht⟩ := decodeAndReport_form s
  rw [h, ht]; rfl

@[simp] theorem decodeAndReport_writeAnswers (s : State) : (decodeAndReport s).writeAnswers = s.writeAnswers := by
  obtain ⟨t, st, d, h, ht⟩ := decodeAndReport_form s
  rw [h, ht]; rfl

@[simp] theorem decodeAndReport_readAnswers (s : State) : (decodeAndReport s).readAnswers = s.readAnswers := by
  obtain ⟨t, st, d, h, ht⟩ := decodeAndReport_form s
  rw [h, ht]; rfl

@[simp] theorem decodeAndReport_closeAnswers (s : State) : (decodeAndReport s).closeAnswers = s.closeAnswers := by
  obtain ⟨t, st, d, h, ht⟩ := decodeAndReport_form s
  rw [h, ht]; rfl

@[simp] theorem decodeAndReport_timePassing (s : State) : (decodeAndReport s).timePassing = s.timePassing := by
  obtain ⟨t, st, d, h, ht⟩ := decodeAndReport_form s
  rw [h, ht]; rfl

@[simp] theorem decodeAndReport_inFlight (s : State) : (decodeAndReport s).inFlight = none := by
  obtain ⟨t, st, d, h, ht⟩ := decodeAndReport_form s
  rw [h, ht]; rfl

@[simp] theorem decodeAndReport_outstanding (s : State) : (decodeAndReport s).outstanding = none := by
  obtain ⟨t, st, d, h, ht⟩ := decodeAndReport_form s
  rw [h, ht]; rfl

@[simp] theorem decodeAndReport_phase (s : State) : (decodeAndReport s).phase = .idle := by
  obtain ⟨t, st, d, h, ht⟩ := decodeAndReport_form s
  rw [h, ht]; rfl

@[simp] theorem decodeAndReport_settleT (s : State) : (decodeAndReport s).settleT = none := by
  obtain ⟨t, st, d, h, ht⟩ := decodeAndReport_form s
  rw [h, ht]; rfl

@[simp] theorem decodeAndReport_state (s : State) : (decodeAndReport s).state = (leaveMeasuring s).state := by
  obtain ⟨t, st, d, h, ht⟩ := decodeAndReport_form s
  rw [h, ht]; rfl

/-! ### The soft reset and the trigger -/

theorem writeSoftReset_held {s : State} {h : Handle} (hh : s.handle = some h)
    (hw : s.writeAnswers = []) :
    writeSoftReset s =
      .next (hold .cmdSoftReset (issue (.writeByte h Config.params.softReset) s)) := by
  simp [writeSoftReset, hh, memWrite_held hw]

theorem writeSoftReset_answered {s : State} {h : Handle} {a : Int} {rest : List Int}
    (hh : s.handle = some h) (hw : s.writeAnswers = a :: rest) :
    writeSoftReset s = .next
      (let t := { answered (issue (.writeByte h Config.params.softReset) s) with
        writeAnswers := rest }
      if a = 0 then finishOk t else raise .commandError t) := by
  simp only [writeSoftReset, hh, memWrite_answered hw]
  split <;> rfl

theorem writeMeasurement_held {s : State} {h : Handle} {cmd : Byte} (hs : s.state = .measuring)
    (hp : s.phase = .write) (hh : s.handle = some h) (hw : s.writeAnswers = []) :
    writeMeasurement cmd s = .next (issue (.writeByte h cmd) s) := by
  simp [writeMeasurement, hs, hp, hh, memWrite_held hw]

theorem writeMeasurement_answered {s : State} {h : Handle} {cmd : Byte} {a : Int}
    {rest : List Int} (hs : s.state = .measuring) (hp : s.phase = .write)
    (hh : s.handle = some h) (hw : s.writeAnswers = a :: rest) :
    writeMeasurement cmd s = .next
      (let t := { answered (issue (.writeByte h cmd) s) with writeAnswers := rest }
      if a = 0 then enterSettle t else raise .commandError t) := by
  simp only [writeMeasurement, hs, hp, hh, memWrite_answered hw]
  simp only [ne_eq, not_true_eq_false, if_false]
  split <;> rfl

theorem writeMeasurement_elsewhere {s : State} {cmd : Byte} (hs : s.state ≠ .measuring) :
    writeMeasurement cmd s = .next (raise .programming s) := by
  simp [writeMeasurement, hs]

/-! ### Nothing a host presents runs in `Measuring` -/

/-- R181 for each meaning at once. -/
theorem exec_measuring_cases {s : State} (hs : s.state = .measuring) :
    execSreset s = .next s ∧ execRead s = .next s ∧ execClose s = .next s ∧
      (∀ b a m, execOpen b a m s = .next s) ∧ (∀ m, execSetmode m s = .next s) ∧
      (∀ d, execCrc8 d s = .next s) ∧
      (∀ f0 f1 f2 f3 f4 f5, execDecode f0 f1 f2 f3 f4 f5 s = .next s) := by
  simp [execSreset, execRead, execClose, execOpen, execSetmode, execCrc8, execDecode, hs]

end Sys2Proof.Machine
end

