-- ==== Sys2Proof/Laws/Step.lean ====
section
/-!
SUPPORT. What the phases of a `READ` can do, which meaning a measurement command has, and how a run
unfolds.
-/

namespace Sys2Proof.Machine

/-- The legal modes written out (R25). -/
theorem isMeasurementMode_iff (m : Byte) :
    isMeasurementMode m = true ↔
      m ∈ ([0xFD, 0xF6, 0xE0, 0x39, 0x3A, 0x32, 0x33, 0x2F, 0x30] : List Byte) := by
  simp only [isMeasurementMode, List.contains_iff_mem]
  rfl

/-- Each measurement command writes its own byte (R232 to R240). -/
theorem exec_measurement {i : Instr} {cmd : Byte} (h : i.isMeasurement = true)
    (he : encode i = [cmd]) (s : State) : exec i s = writeMeasurement cmd s := by
  cases i <;> simp [Instr.isMeasurement] at h <;>
    (simp only [encode, List.cons.injEq, and_true] at he; subst he; rfl)

/-- Only six bytes make a frame (R63). -/
theorem frameOfBytes_eq_none {bytes : List Byte} (h : bytes.length ≠ 6) :
    frameOfBytes bytes = none := by
  unfold frameOfBytes
  split
  · simp at h
  · rfl

theorem frameOfBytes_eq_some {bytes : List Byte} {f : RawFrame} (h : frameOfBytes bytes = some f) :
    bytes = [f.tHi, f.tLo, f.tCrc, f.hHi, f.hLo, f.hCrc] := by
  unfold frameOfBytes at h
  split at h <;> cases h
  rfl

theorem phaseRead_held {s : State} {h : Handle} (hh : s.handle = some h)
    (hr : s.readAnswers = []) :
    phaseRead s = .next (issue (.readBytes h Config.params.frameLen) s) := by
  simp only [phaseRead, hh, memRead_held hr]

theorem phaseRead_error {s : State} {h : Handle} {rest : List ReadAnswer}
    (hh : s.handle = some h) (hr : s.readAnswers = .error :: rest) :
    phaseRead s = .next (raise (.readLength 0 true) (loseScratch
      { answered (issue (.readBytes h Config.params.frameLen) s) with readAnswers := rest })) := by
  simp only [phaseRead, hh, memRead_answered hr]

theorem phaseRead_data {s : State} {h : Handle} {bytes : List Byte} {rest : List ReadAnswer}
    (hh : s.handle = some h) (hr : s.readAnswers = .data bytes :: rest) :
    phaseRead s = .next
      (let t := { answered (issue (.readBytes h Config.params.frameLen) s) with
        readAnswers := rest }
      match frameOfBytes bytes with
      | some f => loadFrame f t
      | none => raise (.readLength bytes.length false) (loseScratch t)) := by
  simp only [phaseRead, hh, memRead_answered hr]
  cases frameOfBytes bytes <;> rfl

/-- Phase `SETTLE`, once: it ends, or time passes, or nothing happens (R186). -/
theorem phaseSettle_cases {s : State} {e : Nat} (he : s.settleT = some e) :
    (Config.params.settleMin ≤ e ∧
      phaseSettle s =
        { s with phase := .read, settleT := none, trace := s.trace ++ [.wait e] }) ∨
    (e < Config.params.settleMin ∧ ∃ d rest, s.timePassing = d :: rest ∧
      phaseSettle s = { s with settleT := some (e + d), timePassing := rest }) ∨
    (e < Config.params.settleMin ∧ s.timePassing = [] ∧ phaseSettle s = s) := by
  simp only [phaseSettle, he, Option.getD_some]
  by_cases h : Config.params.settleMin ≤ e
  · exact .inl ⟨h, if_pos h⟩
  · rw [if_neg h]
    cases ht : s.timePassing with
    | nil => exact .inr (.inr ⟨by omega, rfl, rfl⟩)
    | cons d rest => exact .inr (.inl ⟨by omega, d, rest, rfl, rfl⟩)

/-- A run goes on from the state after its first step. -/
theorem core_run_succ {k : Nat} {s t : State} (h : step s = .next t) :
    core.run (k + 1) s = core.run k t := by
  simp only [Host.Core.run]
  rw [show core.step s = .next t from h]

/-- A trace grows by one call: its order moves by one call. -/
theorem traceOrder_append (calls : List XportCall) (c : XportCall) :
    traceOrder (calls ++ [c]) = (traceOrder calls).bind fun o => o.next c := by
  simp [traceOrder, List.foldl_append]

/-- The handles closed by a trace and one more call. -/
theorem closedHandles_append (a b : List XportCall) :
    closedHandles (a ++ b) = closedHandles a ++ closedHandles b := by
  induction a with
  | nil => rfl
  | cons c a ih => cases c <;> simp [closedHandles, ih]

end Sys2Proof.Machine
end

