-- ==== Sys2Proof/Laws/Cases.lean ====
section
/-!
SUPPORT. The inversion of `exec` and `step`: everything an instruction, a phase and a step can do,
said once. A proof about every step takes these cases and unfolds neither.
-/

namespace Sys2Proof.Machine

/-- The invariant looks at nine registers only: states that agree on them meet it together. -/
theorem inv_of_same {s t : State} (h : s.Inv) (hstate : t.state = s.state)
    (hphase : t.phase = s.phase) (hhandle : t.handle = s.handle) (hmode : t.mode = s.mode)
    (htable : t.table = s.table) (hvalid : t.valid = s.valid) (htemp : t.temp = s.temp)
    (hhum : t.hum = s.hum) (hsettle : t.settleT = s.settleT) : t.Inv := by
  obtain ⟨h1, h2, h3, h4, h5, h6, h7, h8, h9, h10⟩ := h
  refine ⟨?_, ?_, ?_, ?_, ?_, ?_, ?_, ?_, ?_, ?_⟩ <;>
    simp only [hstate, hphase, hhandle, hmode, htable, hvalid, htemp, hhum, hsettle] <;> assumption

/-- Everything an instruction that ends in a next state can have done. -/
inductive Effect (s : State) : Instr → State → Prop where
  /-- Held: in `Measuring` nothing is accepted (R181), nor a command outside its phase. -/
  | notAccepted (i : Instr) : s.state = .measuring → Effect s i s
  /-- Misuse (R255); `CLOSE` raises no error (R191). -/
  | misuse (i : Instr) : s.state ≠ .measuring → i ≠ .hostClose → Effect s i (raise .programming s)
  | openHeld (bus addr mode : Byte) : s.state = .closed → isMeasurementMode mode = true →
      s.openAnswers = [] →
      Effect s (.hostOpen bus addr mode)
        (hold (.hostOpen bus addr mode) (issue (.openBus bus addr) s))
  | openError (bus addr mode : Byte) (rest : List (Option Handle)) : s.state = .closed →
      isMeasurementMode mode = true → s.openAnswers = none :: rest →
      Effect s (.hostOpen bus addr mode)
        (raise .openError { answered (issue (.openBus bus addr) s) with
          openAnswers := rest, granted := s.granted ++ [] })
  | opened (bus addr mode : Byte) (h : Handle) (rest : List (Option Handle)) : s.state = .closed →
      isMeasurementMode mode = true → s.openAnswers = some h :: rest →
      Effect s (.hostOpen bus addr mode)
        (finishOk (startSession h bus addr mode { answered (issue (.openBus bus addr) s) with
          openAnswers := rest, granted := s.granted ++ [h] }))
  | softResetHeld (i : Instr) (h : Handle) : (i = .hostSreset ∨ i = .cmdSoftReset) →
      s.state = .opened → s.handle = some h → s.writeAnswers = [] →
      Effect s i (hold .cmdSoftReset (issue (.writeByte h Config.params.softReset) s))
  | softReset (i : Instr) (h : Handle) (a : Int) (rest : List Int) :
      (i = .hostSreset ∨ i = .cmdSoftReset) → s.state = .opened → s.handle = some h →
      s.writeAnswers = a :: rest →
      Effect s i
        (let t := { answered (issue (.writeByte h Config.params.softReset) s) with
          writeAnswers := rest }
        if a = 0 then finishOk t else raise .commandError t)
  | readStarts : s.state = .opened → Effect s .hostRead (startRead s)
  | modeSet (m : Byte) : s.state = .opened → isMeasurementMode m = true →
      Effect s (.hostSetmode m) (finishOk { s with mode := m })
  | closedAlready : s.state = .closed → Effect s .hostClose (finishOk s)
  | closeHeld (h : Handle) : s.state = .opened → s.handle = some h → s.closeAnswers = 0 →
      Effect s .hostClose (hold .hostClose (issue (.closeBus h) s))
  | closed (h : Handle) (n : Nat) : s.state = .opened → s.handle = some h →
      s.closeAnswers = n + 1 →
      Effect s .hostClose (finishOk { answered (issue (.closeBus h) s) with
        closeAnswers := n, handle := none, state := .closed })
  | crc8 (data : List Byte) : s.state ≠ .measuring →
      Effect s (.hostCrc8 data) (finishOk (crcFold data s))
  | decode (f0 f1 f2 f3 f4 f5 : Byte) : s.state ≠ .measuring →
      Effect s (.hostDecode f0 f1 f2 f3 f4 f5)
        (decodeAndReport { clearMeasurement s with frame := ⟨f0, f1, f2, f3, f4, f5⟩ })
  | triggerHeld (i : Instr) (cmd : Byte) (h : Handle) : i.isMeasurement = true →
      encode i = [cmd] → isMeasurementMode cmd = true → s.state = .measuring → s.phase = .write →
      s.handle = some h → s.writeAnswers = [] → Effect s i (issue (.writeByte h cmd) s)
  | trigger (i : Instr) (cmd : Byte) (h : Handle) (a : Int) (rest : List Int) :
      i.isMeasurement = true → encode i = [cmd] → isMeasurementMode cmd = true →
      s.state = .measuring → s.phase = .write → s.handle = some h → s.writeAnswers = a :: rest →
      Effect s i
        (let t := { answered (issue (.writeByte h cmd) s) with writeAnswers := rest }
        if a = 0 then enterSettle t else raise .commandError t)

/-- A measurement command encodes to one byte that is legal in `MODE` (R92). -/
theorem encode_measurement {i : Instr} (h : i.isMeasurement = true) :
    ∃ cmd, encode i = [cmd] ∧ isMeasurementMode cmd = true := by
  cases i <;> simp [Instr.isMeasurement] at h <;> exact ⟨_, rfl, by decide⟩

theorem writeMeasurement_effect {i : Instr} {cmd : Byte} {s t : State}
    (hi : i.isMeasurement = true) (he : encode i = [cmd]) (hm : isMeasurementMode cmd = true)
    (h : writeMeasurement cmd s = .next t) : Effect s i t := by
  by_cases hs : s.state = .measuring
  · by_cases hp : s.phase = .write
    · cases hh : s.handle with
      | none => simp [writeMeasurement, hs, hp, hh] at h
      | some hd =>
        cases hw : s.writeAnswers with
        | nil =>
          rw [writeMeasurement_held hs hp hh hw] at h
          cases h
          exact .triggerHeld i cmd hd hi he hm hs hp hh hw
        | cons a rest =>
          rw [writeMeasurement_answered hs hp hh hw] at h
          cases h
          exact .trigger i cmd hd a rest hi he hm hs hp hh hw
    · simp only [writeMeasurement, hs, hp, ne_eq, not_true_eq_false, not_false_eq_true, if_true,
        if_false] at h
      cases h
      exact .notAccepted i hs
  · rw [writeMeasurement_elsewhere hs] at h
    cases h
    exact .misuse i hs (by rintro rfl; simp [Instr.isMeasurement] at hi)

theorem writeSoftReset_effect {i : Instr} {s t : State} (hi : i = .hostSreset ∨ i = .cmdSoftReset)
    (hs : s.state = .opened) (h : writeSoftReset s = .next t) : Effect s i t := by
  cases hh : s.handle with
  | none => simp [writeSoftReset, hh] at h
  | some hd =>
    cases hw : s.writeAnswers with
    | nil =>
      rw [writeSoftReset_held hh hw] at h
      cases h
      exact .softResetHeld i hd hi hs hh hw
    | cons a rest =>
      rw [writeSoftReset_answered hh hw] at h
      cases h
      exact .softReset i hd a rest hi hs hh hw

theorem execOpen_effect {bus addr mode : Byte} {s t : State}
    (h : execOpen bus addr mode s = .next t) : Effect s (.hostOpen bus addr mode) t := by
  unfold execOpen at h
  split at h
  · cases h; exact .notAccepted _ ‹_›
  · cases h; exact .misuse _ (by simp [*]) (by simp)
  · split at h
    · cases ha : s.openAnswers with
      | nil => rw [xportOpen_held ha] at h; cases h; exact .openHeld bus addr mode ‹_› ‹_› ha
      | cons a rest =>
        rw [xportOpen_answered ha] at h
        cases a <;> cases h
        · exact .openError bus addr mode rest ‹_› ‹_› ha
        · exact .opened bus addr mode _ rest ‹_› ‹_› ha
    · cases h; exact .misuse _ (by simp [*]) (by simp)

theorem execClose_effect {s t : State} (h : execClose s = .next t) : Effect s .hostClose t := by
  unfold execClose at h
  split at h
  · cases h; exact .notAccepted _ ‹_›
  · cases h; exact .closedAlready ‹_›
  · cases hh : s.handle with
    | none => simp [hh] at h
    | some hd =>
      simp only [hh] at h
      cases hc : s.closeAnswers with
      | zero => rw [xportClose_held hc] at h; cases h; exact .closeHeld hd ‹_› hh hc
      | succ n => rw [xportClose_answered hc] at h; cases h; exact .closed hd n ‹_› hh hc

/-- The inversion of `exec`. -/
theorem exec_effect {i : Instr} {s t : State} (h : exec i s = .next t) : Effect s i t := by
  by_cases hm : i.isMeasurement = true
  · obtain ⟨cmd, he, hl⟩ := encode_measurement hm
    rw [exec_measurement hm he] at h
    exact writeMeasurement_effect hm he hl h
  cases i <;> simp only [Instr.isMeasurement, not_true_eq_false] at hm <;> simp only [exec] at h
  case hostOpen => exact execOpen_effect h
  case hostClose => exact execClose_effect h
  case hostSreset =>
    unfold execSreset at h
    split at h
    · cases h; exact .notAccepted _ ‹_›
    · cases h; exact .misuse _ (by simp [*]) (by simp)
    · exact writeSoftReset_effect (.inl rfl) ‹_› h
  case cmdSoftReset =>
    unfold execCmdSoftReset at h
    split at h
    · cases h; exact .notAccepted _ ‹_›
    · cases h; exact .misuse _ (by simp [*]) (by simp)
    · exact writeSoftReset_effect (.inr rfl) ‹_› h
  case hostRead =>
    unfold execRead at h
    split at h <;> cases h
    · exact .notAccepted _ ‹_›
    · exact .misuse _ (by simp [*]) (by simp)
    · exact .readStarts ‹_›
  case hostSetmode m =>
    unfold execSetmode at h
    split at h
    · cases h; exact .notAccepted _ ‹_›
    · cases h; exact .misuse _ (by simp [*]) (by simp)
    · split at h <;> cases h
      · exact .modeSet m ‹_› ‹_›
      · exact .misuse _ (by simp [*]) (by simp)
  case hostCrc8 data =>
    unfold execCrc8 at h
    split at h <;> cases h
    · exact .notAccepted _ ‹_›
    · exact .crc8 data ‹_›
  case hostDecode f0 f1 f2 f3 f4 f5 =>
    unfold execDecode at h
    split at h <;> cases h
    · exact .notAccepted _ ‹_›
    · exact .decode f0 f1 f2 f3 f4 f5 ‹_›

/-- Everything a step that ends in a next state can have done. -/
inductive StepEffect (s : State) : State → Prop where
  /-- The operation in flight. -/
  | resumed (i : Instr) (t : State) : s.inFlight = some i → Effect s i t → StepEffect s t
  /-- The request at the host port. -/
  | requested (i : Instr) (rest : List Byte) (t : State) : s.inFlight = none →
      s.state ≠ .measuring → decodeHost s.hostIn = .instr i rest →
      Effect { s with hostIn := rest } i t → StepEffect s t
  | reserved (op : Byte) (rest : List Byte) : s.inFlight = none → s.state ≠ .measuring →
      decodeHost s.hostIn = .reserved op rest →
      StepEffect s (raise .programming { s with hostIn := rest })
  /-- No whole request, or (never reached) `Measuring` in phase `IDLE`. -/
  | nothing : s.inFlight = none → StepEffect s s
  /-- Phase `WRITE`. -/
  | commanded (i : Instr) (t : State) : s.inFlight = none → s.state = .measuring →
      s.phase = .write → decodeCmd8 s.mode = some i → Effect s i t → StepEffect s t
  | settle : s.inFlight = none → s.state = .measuring → s.phase = .settle →
      StepEffect s (phaseSettle s)
  | readHeld (h : Handle) : s.inFlight = none → s.state = .measuring → s.phase = .read →
      s.handle = some h → s.readAnswers = [] →
      StepEffect s (issue (.readBytes h Config.params.frameLen) s)
  | readFailed (h : Handle) (count : Nat) (xport : Bool) (a : ReadAnswer)
      (rest : List ReadAnswer) : s.inFlight = none → s.state = .measuring → s.phase = .read →
      s.handle = some h → s.readAnswers = a :: rest →
      StepEffect s (raise (.readLength count xport) (loseScratch
        { answered (issue (.readBytes h Config.params.frameLen) s) with readAnswers := rest }))
  | readDone (h : Handle) (f : RawFrame) (a : ReadAnswer) (rest : List ReadAnswer) :
      s.inFlight = none → s.state = .measuring → s.phase = .read →
      s.handle = some h → s.readAnswers = a :: rest →
      StepEffect s (loadFrame f
        { answered (issue (.readBytes h Config.params.frameLen) s) with readAnswers := rest })
  | decoded : s.inFlight = none → s.state = .measuring → s.phase = .decode →
      StepEffect s (decodeAndReport s)

/-- The inversion of `step`. -/
theorem step_effect {s t : State} (h : step s = .next t) : StepEffect s t := by
  rw [step] at h
  cases hf : s.inFlight with
  | some i =>
    rw [show fetch s = .instr i s by simp [fetch, hf]] at h
    exact .resumed i t hf (exec_effect h)
  | none =>
    by_cases hs : s.state = .measuring
    · rw [show fetch s = fetchMeasuring s by simp [fetch, hf, hs]] at h
      unfold fetchMeasuring at h
      cases hp : s.phase <;> simp only [hp] at h
      case idle => cases h; exact .nothing hf
      case write =>
        cases hd : decodeCmd8 s.mode <;> simp only [hd] at h
        · cases h
        · exact .commanded _ t hf hs hp hd (exec_effect h)
      case settle => cases h; exact .settle hf hs hp
      case decode => cases h; exact .decoded hf hs hp
      case read =>
        cases hh : s.handle with
        | none => simp [phaseRead, hh] at h
        | some hd =>
          cases hr : s.readAnswers with
          | nil => rw [phaseRead_held hh hr] at h; cases h; exact .readHeld hd hf hs hp hh hr
          | cons a rest =>
            cases a with
            | error =>
              rw [phaseRead_error hh hr] at h
              cases h
              exact .readFailed hd 0 true _ rest hf hs hp hh hr
            | data bytes =>
              rw [phaseRead_data hh hr] at h
              cases hb : frameOfBytes bytes <;> simp only [hb] at h <;> cases h
              · exact .readFailed hd bytes.length false _ rest hf hs hp hh hr
              · exact .readDone hd _ _ rest hf hs hp hh hr
    · rw [show fetch s = fetchHost s by
        simp only [fetch, hf]; cases h' : s.state <;> simp_all] at h
      unfold fetchHost at h
      cases hd : decodeHost s.hostIn <;> simp only [hd] at h
      case instr i rest => exact .requested i rest t hf hs hd (exec_effect h)
      case reserved op rest => cases h; exact .reserved op rest hf hs hd
      case incomplete => cases h; exact .nothing hf

end Sys2Proof.Machine
end

