-- ==== Sys2Proof/Laws/PerInstr.lean ====
section
/-!
SUPPORT. The per-instruction family `FirstByte`: what every encoding begins with.
-/

namespace Sys2Proof.Laws.FirstByte

/-- The first byte of an encoding is read in exactly one of the two instruction spaces: a host
request's is no device command, and a device command's is a reserved host opcode (R92, R96, R98). -/
def Statement (i : Instr) : Prop :=
  ∃ b rest, encode i = b :: rest ∧
    ((i.isHost = true ∧ decodeCmd8 b = none ∧ ∀ more, decodeHost (b :: more) ≠ .reserved b more) ∨
     (i.isHost = false ∧ decodeCmd8 b = some i ∧ ∀ more, decodeHost (b :: more) = .reserved b more))

theorem hostOpen (bus addr mode : Byte) : Statement (.hostOpen bus addr mode) :=
  ⟨opOpen, _, rfl, .inl ⟨rfl, by decide, fun more => by
    simp only [decodeHost, if_true]; unfold decodeOpen; split <;> simp⟩⟩

theorem hostSreset : Statement .hostSreset :=
  ⟨opSreset, _, rfl, .inl ⟨rfl, by decide, fun more => by simp [decodeHost, opSreset, opOpen]⟩⟩

theorem hostRead : Statement .hostRead :=
  ⟨opRead, _, rfl, .inl ⟨rfl, by decide, fun more => by
    simp [decodeHost, opRead, opSreset, opOpen]⟩⟩

theorem hostSetmode (imm8 : Byte) : Statement (.hostSetmode imm8) :=
  ⟨opSetmode, _, rfl, .inl ⟨rfl, by decide, fun more => by
    simp only [decodeHost, opSetmode, opRead, opSreset, opOpen]
    unfold decodeSetmode; cases more <;> simp⟩⟩

theorem hostClose : Statement .hostClose :=
  ⟨opClose, _, rfl, .inl ⟨rfl, by decide, fun more => by
    simp [decodeHost, opClose, opSetmode, opRead, opSreset, opOpen]⟩⟩

theorem hostCrc8 (data : List Byte) : Statement (.hostCrc8 data) :=
  ⟨opCrc8, _, rfl, .inl ⟨rfl, by decide, fun more => by
    simp only [decodeHost, opCrc8, opClose, opSetmode, opRead, opSreset, opOpen]
    unfold decodeCrc8; cases more <;> simp; split <;> simp⟩⟩

theorem hostDecode (f0 f1 f2 f3 f4 f5 : Byte) : Statement (.hostDecode f0 f1 f2 f3 f4 f5) :=
  ⟨opDecode, _, rfl, .inl ⟨rfl, by decide, fun more => by
    have h : decodeHost (opDecode :: more) = decodeDecode more := rfl
    rw [h]; unfold decodeDecode; split <;> simp⟩⟩

theorem cmdSoftReset : Statement .cmdSoftReset :=
  ⟨_, _, rfl, .inr ⟨rfl, by decide, fun _ => rfl⟩⟩

theorem cmdMeasHigh : Statement .cmdMeasHigh :=
  ⟨_, _, rfl, .inr ⟨rfl, by decide, fun _ => rfl⟩⟩

theorem cmdMeasMed : Statement .cmdMeasMed :=
  ⟨_, _, rfl, .inr ⟨rfl, by decide, fun _ => rfl⟩⟩

theorem cmdMeasLow : Statement .cmdMeasLow :=
  ⟨_, _, rfl, .inr ⟨rfl, by decide, fun _ => rfl⟩⟩

theorem cmdHeatHigh1s : Statement .cmdHeatHigh1s :=
  ⟨_, _, rfl, .inr ⟨rfl, by decide, fun _ => rfl⟩⟩

theorem cmdHeatHigh100ms : Statement .cmdHeatHigh100ms :=
  ⟨_, _, rfl, .inr ⟨rfl, by decide, fun _ => rfl⟩⟩

theorem cmdHeatMed1s : Statement .cmdHeatMed1s :=
  ⟨_, _, rfl, .inr ⟨rfl, by decide, fun _ => rfl⟩⟩

theorem cmdHeatMed100ms : Statement .cmdHeatMed100ms :=
  ⟨_, _, rfl, .inr ⟨rfl, by decide, fun _ => rfl⟩⟩

theorem cmdHeatLow1s : Statement .cmdHeatLow1s :=
  ⟨_, _, rfl, .inr ⟨rfl, by decide, fun _ => rfl⟩⟩

theorem cmdHeatLow100ms : Statement .cmdHeatLow100ms :=
  ⟨_, _, rfl, .inr ⟨rfl, by decide, fun _ => rfl⟩⟩

end Sys2Proof.Laws.FirstByte
end

