-- ==== Sys2Proof/Tests/Slice0.lean ====
section
/-!
SUPPORT. Tests with the results 95_test_vectors.md and the rules give, each about one step or one
function; then, for every statement with hypotheses, states and operands that meet them, at the
boundary of each clause.
-/

set_option maxRecDepth 20000

namespace Sys2Proof.Tests

open Sys2Proof.Machine

/-! ### Small states -/

/-- The handle `h1` of 95_test_vectors.md. -/
def h1 : Handle := ⟨1⟩

/-- An open session, everything else as after reset. -/
def sOpen : State := { State.reset with state := .opened, handle := some h1 }

/-- A session in this phase of a `READ`, with the timer at this value in phase `SETTLE`. -/
def sPhase (p : Phase) (elapsed : Nat := 0) : State :=
  { sOpen with
    state := .measuring
    phase := p
    settleT := if p = .settle then some elapsed else none }

/-- One register of the next state. -/
def reg {α : Type} (f : State → α) : Out → Option α
  | .next s => some (f s)
  | .fault _ => none
  | .refused _ => none

/-- The legal modes as the statements write them. -/
abbrev legalModes : List Byte := [0xFD, 0xF6, 0xE0, 0x39, 0x3A, 0x32, 0x33, 0x2F, 0x30]

/-- A frame with good checksums (F7 of 95_test_vectors.md). -/
def frameF7 : RawFrame := ⟨0x12, 0x34, 0x37, 0xAB, 0xCD, 0x6F⟩

/-! ### Well-formedness, decoder, encoder -/

/-- A 256-byte `CRC8` has no encoding (R126: `n` is 0 to 255). -/
theorem test_illformed_crc8_256 :
    (Instr.hostCrc8 (List.replicate 256 0)).wellFormed = false := by decide

theorem test_wellformed_crc8_255 :
    (Instr.hostCrc8 (List.replicate 255 0)).wellFormed = true := by decide

/-- The requests of programs P1 to P4 and R183, R190, R191, byte by byte. -/
theorem test_decode_host_words :
    decodeHost [0b00000001, 0x01, 0x44, 0xFD] = .instr (.hostOpen 0x01 0x44 0xFD) [] ∧
    decodeHost [0b00000010] = .instr .hostSreset [] ∧
    decodeHost [0b00000011, 0x05] = .instr .hostRead [0x05] ∧
    decodeHost [0b00000100, 0xE0] = .instr (.hostSetmode 0xE0) [] ∧
    decodeHost [0b00000101] = .instr .hostClose [] ∧
    decodeHost [0b00000110, 0x02, 0xBE, 0xEF, 0x03] = .instr (.hostCrc8 [0xBE, 0xEF]) [0x03] ∧
    decodeHost [0b00000110, 0x00] = .instr (.hostCrc8 []) [] ∧
    decodeHost [0b00000111, 0xFF, 0xFF, 0xAC, 0x00, 0x00, 0x81] =
      .instr (.hostDecode 0xFF 0xFF 0xAC 0x00 0x00 0x81) [] := by decide

/-- The binary column of R92. -/
theorem test_decode_command_words :
    decodeCmd8 0b10010100 = some .cmdSoftReset ∧ decodeCmd8 0b11111101 = some .cmdMeasHigh ∧
    decodeCmd8 0b11110110 = some .cmdMeasMed ∧ decodeCmd8 0b11100000 = some .cmdMeasLow ∧
    decodeCmd8 0b00111001 = some .cmdHeatHigh1s ∧
    decodeCmd8 0b00111010 = some .cmdHeatHigh100ms ∧
    decodeCmd8 0b00110010 = some .cmdHeatMed1s ∧
    decodeCmd8 0b00110011 = some .cmdHeatMed100ms ∧
    decodeCmd8 0b00101111 = some .cmdHeatLow1s ∧
    decodeCmd8 0b00110000 = some .cmdHeatLow100ms ∧ decodeCmd8 0x31 = none := by decide

/-- R98 (a). -/
theorem test_reserved_opcodes :
    decodeHost [0x00, 0x01] = .reserved 0x00 [0x01] ∧ decodeHost [0x08] = .reserved 0x08 [] ∧
    decodeHost [0x94] = .reserved 0x94 [] ∧ decodeHost [0xFF] = .reserved 0xFF [] := by decide

/-- R95: a request that has not arrived whole. -/
theorem test_incomplete_requests :
    decodeHost [] = .incomplete ∧ decodeHost [0x01, 0x01, 0x44] = .incomplete ∧
    decodeHost [0x04] = .incomplete ∧ decodeHost [0x06] = .incomplete ∧
    decodeHost [0x06, 0x02, 0xBE] = .incomplete ∧
    decodeHost [0x07, 0, 0, 0, 0, 0] = .incomplete := by decide

/-- R94, with the frame of R151. -/
theorem test_rsp48_layout :
    rsp48 ⟨0x66, 0x66, 0x93, 0xFF, 0xFF, 0xAC⟩ = 0x666693FFFFAC ∧
    ofRsp48 0x666693FFFFAC = ⟨0x66, 0x66, 0x93, 0xFF, 0xFF, 0xAC⟩ := by decide

/-- R103, R104: `OPEN 1` and `OPEN 1, 0x45`. -/
theorem test_assembler :
    (AsmLine.lineOpen 1 none).assemble = [0x01, 0x01, 0x44, 0xFD] ∧
    (AsmLine.lineOpen 1 (some (0x45, none))).assemble = [0x01, 0x01, 0x45, 0xFD] ∧
    (AsmLine.lineCrc8 [0xBE, 0xEF]).assemble = [0x06, 0x02, 0xBE, 0xEF] := by decide

/-- The match bytes of opcode_table.json. -/
theorem test_table_words :
    [1, 2, 3, 4, 5, 6, 7].map (decodeTableWord 8) =
      [some (.hostOpen 0 0 0), some .hostSreset, some .hostRead, some (.hostSetmode 0),
        some .hostClose, some (.hostCrc8 []), some (.hostDecode 0 0 0 0 0 0)] ∧
    [0x94, 0xFD, 0xF6, 0xE0, 0x39, 0x3A, 0x32, 0x33, 0x2F, 0x30].map (decodeTableWord 8) =
      [some .cmdSoftReset, some .cmdMeasHigh, some .cmdMeasMed, some .cmdMeasLow,
        some .cmdHeatHigh1s, some .cmdHeatHigh100ms, some .cmdHeatMed1s, some .cmdHeatMed100ms,
        some .cmdHeatLow1s, some .cmdHeatLow100ms] ∧
    decodeTableWord 8 0 = none ∧
    decodeTableWord 32 0xFD440101 = some (.hostOpen 0x01 0x44 0xFD) := by decide +kernel

/-- A placed word is the next instruction from reset. -/
theorem test_placed_words_run :
    reg (·.status) (step (State.reset.withFetchWord 8 0x06)) = some .ok ∧
    reg (·.hostIn) (step (State.reset.withFetchWord 8 0x06)) = some [] ∧
    reg (·.status) (step (State.reset.withFetchWord 8 0x03)) = some .programmingError ∧
    reg (·.trace) (step (State.reset.withFetchWord 8 0x39)) = some [.writeByte ⟨0⟩ 0x39] ∧
    reg (·.trace) (step (State.reset.withFetchWord 8 0x94)) = some [.writeByte ⟨0⟩ 0x94] := by
  decide +kernel

/-! ### CRC engine -/

/-- 95_test_vectors.md 2.1. -/
theorem test_crc8_byte :
    crc8Byte 0x00 0x31 = 0x00 ∧ crc8Byte 0x01 0x31 = 0x31 ∧ crc8Byte 0x02 0x31 = 0x62 ∧
    crc8Byte 0x80 0x31 = 0x7A ∧ crc8Byte 0x81 0x31 = 0x4B ∧ crc8Byte 0xE3 0x31 = 0x92 ∧
    crc8Byte 0xFF 0x31 = 0xAC ∧ crc8Byte 0x80 0x07 = 0x89 ∧ crc8Byte 0xFF 0x07 = 0xF3 ∧
    crc8Byte 0x02 0xFF = 0x01 := by decide

/-- 95_test_vectors.md 2.2. -/
theorem test_checksum :
    checksum (buildTable 0x31) [] 0xFF = 0xFF ∧
    checksum (buildTable 0x31) [0xBE, 0xEF] 0xFF = 0x92 ∧
    checksum (buildTable 0x31) [0xEF, 0xBE] 0xFF = 0xCE ∧
    checksum (buildTable 0x31) [0xBE, 0xEF] 0x00 = 0x13 ∧
    checksum (buildTable 0x31) [0x31, 0x32, 0x33, 0x34, 0x35, 0x36, 0x37, 0x38, 0x39] 0xFF =
      0xF7 := by
  decide +kernel

/-- 95_test_vectors.md 2.3. -/
theorem test_validate :
    validate (buildTable 0x31) 0xBE 0xEF 0x92 = .pass ∧
    validate (buildTable 0x31) 0xBE 0xEF 0x93 = .mismatch 0x92 0x93 ∧
    validate (buildTable 0x31) 0x00 0x00 0x00 = .mismatch 0x81 0x00 ∧
    validate (buildTable 0x31) 0xFF 0xFF 0xFF = .mismatch 0xAC 0xFF ∧
    validate (buildTable 0x31) 0x67 0x57 0x93 = .pass := by
  decide +kernel

/-- S23 and line 2 of P4. -/
theorem test_crc8_operation :
    reg (·.crcAcc) (exec (.hostCrc8 [0xBE, 0xEF]) State.reset) = some 0x92 ∧
    reg (·.crcAcc) (exec (.hostCrc8 []) sOpen) = some 0xFF ∧
    reg (·.state) (exec (.hostCrc8 []) sOpen) = some .opened := by
  decide +kernel

/-! ### Decoder -/

/-- 95_test_vectors.md 2.4. -/
theorem test_word16 :
    word16 0x01 0x00 = 256 ∧ word16 0x00 0x01 = 1 ∧ (word16 0x80 0x00).toNat = 32768 := by decide

/-- 95_test_vectors.md 2.5, temperature. -/
theorem test_convT :
    convT 1 = 0xC0467FA87FA87FA8 ∧ convT 2 = 0xC0467F50FF50FF51 ∧
    convT 16851 = 0xBF62C012C0130000 ∧ convT 16852 = 0x3F39001900180000 ∧
    convT 21845 = 0x402AAAAAAAAAAAA8 ∧ convT 32768 = 0x4045402BC02BC02C ∧
    convT 48879 = 0x40556178E178E17A ∧ convT 65534 = 0x40603FEA1FEA1FEA := by
  decide +kernel

/-- 95_test_vectors.md 2.5, humidity. -/
theorem test_convH :
    convH 1 = 0x3F59001900190019 ∧ convH 21845 = 0x4040AAAAAAAAAAAA ∧
    convH 32767 = 0x4048FFE6FFE6FFE7 ∧ convH 43981 = 0x4050C715C715C715 ∧
    convH 65534 = 0x4058FFE6FFE6FFE7 := by
  decide +kernel

/-- F12, F13, F14 and F18 of 95_test_vectors.md 2.6. -/
theorem test_decode_frame :
    decodeFrame (buildTable 0x31) ⟨0x66, 0x66, 0x92, 0x66, 0x66, 0x93⟩ =
      .checksumMismatch .temperature 0x93 0x92 ∧
    decodeFrame (buildTable 0x31) ⟨0x66, 0x66, 0x93, 0x66, 0x66, 0x92⟩ =
      .checksumMismatch .humidity 0x93 0x92 ∧
    decodeFrame (buildTable 0x31) ⟨0x66, 0x66, 0x92, 0x66, 0x66, 0x92⟩ =
      .checksumMismatch .temperature 0x93 0x92 ∧
    decodeFrame (buildTable 0x31) ⟨0x67, 0x57, 0x93, 0x66, 0x66, 0x93⟩ =
      .measurement 0x4039A4BFA4BFA4C0 0x4044000000000000 := by
  decide +kernel

/-- S24. -/
theorem test_decode_operation_ok :
    let o := exec (.hostDecode 0x66 0x66 0x93 0x66 0x66 0x93) State.reset
    reg (·.status) o = some .ok ∧ reg (·.valid) o = some true ∧
    reg (·.temp) o = some (some 0x4039000000000000) ∧
    reg (·.hum) o = some (some 0x4044000000000000) := by
  decide +kernel

/-- Line 5 of P4. -/
theorem test_decode_operation_mismatch :
    let o := exec (.hostDecode 0xFF 0xFF 0xAC 0x00 0x00 0x80)
      { State.reset with valid := true, temp := some 0, hum := some 0 }
    reg (·.status) o = some .checksumMismatch ∧ reg (·.valid) o = some false ∧
    reg (·.temp) o = some none ∧ reg (·.errField) o = some .humidity ∧
    reg (·.errExpected) o = some 0x81 ∧ reg (·.errActual) o = some 0x80 := by
  decide +kernel

/-! ### Session -/

/-- S1. -/
theorem test_open_ok :
    let o := exec (.hostOpen 1 0x44 0xFD) { State.reset with openAnswers := [some h1] }
    reg (·.state) o = some .opened ∧ reg (·.handle) o = some (some h1) ∧
    reg (·.cfgBus) o = some 1 ∧ reg (·.mode) o = some 0xFD ∧ reg (·.status) o = some .ok ∧
    reg (·.trace) o = some [.openBus 1 0x44] := by
  decide +kernel

/-- S2 and the last row of 2.9: an illegal mode is refused before the transport is asked. -/
theorem test_open_errors :
    let s : State := { State.reset with openAnswers := [none] }
    reg (·.status) (exec (.hostOpen 1 0x44 0xFD) s) = some .openError ∧
    reg (·.state) (exec (.hostOpen 1 0x44 0xFD) s) = some .closed ∧
    reg (·.status) (exec (.hostOpen 1 0x44 0x94) s) = some .programmingError ∧
    reg (·.openAnswers) (exec (.hostOpen 1 0x44 0x94) s) = some [none] := by
  decide +kernel

/-- S8. -/
theorem test_sreset_ok :
    let o := exec .hostSreset { sOpen with writeAnswers := [0] }
    reg (·.status) o = some .ok ∧ reg (·.state) o = some .opened ∧
    reg (·.trace) o = some [.writeByte h1 0x94] := by
  decide +kernel

/-- S9 and S4. -/
theorem test_sreset_errors :
    reg (·.status) (exec .hostSreset { sOpen with writeAnswers := [-1] }) = some .commandError ∧
    reg (·.status) (exec .hostSreset State.reset) = some .programmingError ∧
    reg (·.trace) (exec .hostSreset State.reset) = some [] := by
  decide +kernel

/-- R184: the start of a `READ`. -/
theorem test_read_starts :
    let o := exec .hostRead { sOpen with valid := true, temp := some 0, hum := some 0 }
    reg (·.state) o = some .measuring ∧ reg (·.phase) o = some .write ∧
    reg (·.valid) o = some false ∧ reg (·.temp) o = some none ∧ reg (·.trace) o = some [] := by
  decide +kernel

/-- S3: refused, and `VALID` is kept. -/
theorem test_read_closed :
    let o := exec .hostRead { State.reset with valid := true, temp := some 0, hum := some 0 }
    reg (·.status) o = some .programmingError ∧ reg (·.valid) o = some true := by
  decide +kernel

/-- R185: the trigger is accepted. -/
theorem test_trigger_accepted :
    let o := step { sPhase .write with mode := 0x2F, writeAnswers := [0] }
    reg (·.phase) o = some .settle ∧ reg (·.settleT) o = some (some 0) ∧
    reg (·.trace) o = some [.writeByte h1 0x2F] := by
  decide +kernel

/-- S11: the trigger is rejected. -/
theorem test_trigger_rejected :
    let o := step { sPhase .write with writeAnswers := [1], readAnswers := [.data []] }
    reg (·.state) o = some .opened ∧ reg (·.phase) o = some .idle ∧
    reg (·.status) o = some .commandError ∧ reg (·.readAnswers) o = some [.data []] ∧
    reg (·.trace) o = some [.writeByte h1 0xFD] := by
  decide +kernel

/-- R186: not before 10 ms. -/
theorem test_settle_lower_bound :
    reg (·.phase) (step (sPhase .settle 9999)) = some .settle ∧
    reg (·.phase) (step (sPhase .settle 10000)) = some .read ∧
    reg (·.trace) (step (sPhase .settle 12345)) = some [.wait 12345] := by
  decide +kernel

/-- S12 and S15. -/
theorem test_read_length_errors :
    let short := step { sPhase .read with
      readAnswers := [.data [0x66, 0x66, 0x93, 0x66, 0x66]] }
    let failed := step { sPhase .read with readAnswers := [.error] }
    reg (·.status) short = some .readLengthError ∧ reg (·.errExpected) short = some 6 ∧
    reg (·.errActual) short = some 5 ∧ reg (·.errXport) short = some false ∧
    reg (·.errActual) failed = some 0 ∧ reg (·.errXport) failed = some true ∧
    reg (·.state) failed = some .opened := by
  decide +kernel

/-- S13: seven bytes are not decoded. -/
theorem test_read_seven_bytes :
    let o := step { sPhase .read with
      readAnswers := [.data [0x66, 0x66, 0x93, 0x66, 0x66, 0x93, 0x00]] }
    reg (·.errActual) o = some 7 ∧ reg (·.valid) o = some false := by
  decide +kernel

/-- Line 2 of P1, its last phase. -/
theorem test_decode_phase :
    let o := step { sPhase .decode with frame := frameF7 }
    reg (·.state) o = some .opened ∧ reg (·.status) o = some .ok ∧
    reg (·.temp) o = some (some 0xC0404733C733C734) ∧
    reg (·.hum) o = some (some 0x4050C715C715C715) := by
  decide +kernel

/-- S18 and S19. -/
theorem test_setmode :
    reg (·.mode) (exec (.hostSetmode 0x39) sOpen) = some 0x39 ∧
    reg (·.mode) (exec (.hostSetmode 0x94) sOpen) = some 0xFD ∧
    reg (·.status) (exec (.hostSetmode 0x94) sOpen) = some .programmingError ∧
    reg (·.status) (exec (.hostSetmode 0xE0) State.reset) = some .programmingError := by
  decide +kernel

/-- S21. -/
theorem test_close_open :
    let o := exec .hostClose { sOpen with closeAnswers := 1 }
    reg (·.state) o = some .closed ∧ reg (·.handle) o = some none ∧
    reg (·.trace) o = some [.closeBus h1] := by
  decide +kernel

/-- S22. -/
theorem test_close_closed :
    reg (·.status) (exec .hostClose State.reset) = some .ok ∧
    reg (·.trace) (exec .hostClose State.reset) = some [] := by
  decide +kernel

/-- S25. -/
theorem test_reserved_opcode_step :
    reg (·.status) (step { sOpen with hostIn := [0x08] }) = some .programmingError ∧
    reg (·.state) (step { sOpen with hostIn := [0x00] }) = some .opened := by
  decide +kernel

/-- S27: an unanswered read is issued once and keeps the phase. -/
theorem test_unanswered_read :
    let o := step (sPhase .read)
    reg (·.phase) o = some .read ∧ reg (·.trace) o = some [.readBytes h1 6] ∧
    reg (·.trace) (step { sPhase .read with
      outstanding := some (.readBytes h1 6), trace := [.readBytes h1 6] }) =
        some [.readBytes h1 6] := by
  decide +kernel

/-- R92, section 2.8: each measurement command writes its own byte. -/
theorem test_command_bytes :
    [Instr.cmdMeasHigh, .cmdMeasMed, .cmdMeasLow, .cmdHeatHigh1s, .cmdHeatHigh100ms, .cmdHeatMed1s,
      .cmdHeatMed100ms, .cmdHeatLow1s, .cmdHeatLow100ms].map
        (fun i => reg (·.trace) (exec i { sPhase .write with writeAnswers := [0] })) =
    [0xFD, 0xF6, 0xE0, 0x39, 0x3A, 0x32, 0x33, 0x2F, 0x30].map
        (fun b => some [XportCall.writeByte h1 b]) := by
  decide +kernel

/-- R231: the soft reset command, `OK` and rejected. -/
theorem test_cmd_soft_reset :
    reg (·.status) (exec .cmdSoftReset { sOpen with writeAnswers := [0] }) = some .ok ∧
    reg (·.status) (exec .cmdSoftReset { sOpen with writeAnswers := [2] }) =
      some .commandError := by
  decide +kernel

/-- R32 and R99 to R101, what the host can read after S3. -/
theorem test_host_view :
    let o := exec .hostRead State.reset
    reg (fun s => (hostView s).status) o = some 5 ∧ reg (fun s => (hostView s).state) o = some 0 ∧
    reg (fun s => (hostView s).temp) o = some none ∧
    reg (fun s => (hostView s).errActual) o = some none := by
  decide +kernel

/-! ### Witnesses: each statement with hypotheses has states and operands that meet them -/

/-- The invariant holds in every phase. -/
theorem inv_of_phase (p : Phase) (e : Nat) (hp : p ≠ .idle) {s : State}
    (h : s = { sPhase p e with
      hostIn := s.hostIn, writeAnswers := s.writeAnswers, readAnswers := s.readAnswers
      outstanding := s.outstanding, trace := s.trace }) : s.Inv := by
  have h0 : (sPhase p e).Inv := by
    refine ⟨?_, ?_, ?_, rfl, rfl, rfl, ?_, ?_, ?_, fun _ => rfl⟩
    · simp [sPhase, sOpen]
    · simp [sPhase, hp]
    · exact (by decide : (0xFD : Byte) ∈ legalModes)
    · intro t h; cases h
    · intro t h; cases h
    · cases p <;> simp [sPhase]
  rw [h]
  exact inv_of_same h0 rfl rfl rfl rfl rfl rfl rfl rfl rfl

/-- The invariant holds between operations, in `Open` and after reset. -/
theorem inv_open : sOpen.Inv := by
  refine ⟨by decide, by decide, by decide, rfl, rfl, rfl, ?_, ?_, by decide, ?_⟩ <;> intro x <;>
    intros <;> simp_all [sOpen, State.reset]

theorem inv_reset : State.reset.Inv := by
  refine ⟨by decide, by decide, by decide, rfl, rfl, rfl, ?_, ?_, by decide, ?_⟩ <;> intro x <;>
    intros <;> simp_all [State.reset]

theorem witness_HostRequestRoundTrip :
    (∃ i : Instr, i.isHost = true ∧ i.wellFormed = true ∧ i = .hostCrc8 []) ∧
    (∃ i : Instr, i.isHost = true ∧ i.wellFormed = true ∧
      i = .hostCrc8 (List.replicate 255 0)) := by
  exact ⟨⟨_, rfl, by decide, rfl⟩, ⟨_, rfl, by decide, rfl⟩⟩

theorem witness_DecodedRequestReencodes :
    decodeHost [0x06, 0x01, 0xBE, 0x05] = .instr (.hostCrc8 [0xBE]) [0x05] := by decide

theorem witness_DeviceCommandRoundTrip :
    Instr.isHost .cmdHeatLow100ms = false ∧ decodeCmd8 0x94 = some .cmdSoftReset := by decide

theorem witness_StepRunsHostRequest :
    ∃ s : State, s.inFlight = none ∧ s.state ≠ .measuring ∧
      decodeHost s.hostIn = .instr .hostRead [0x05] :=
  ⟨{ sOpen with hostIn := [0x03, 0x05] }, rfl, by decide, by decide⟩

theorem witness_StepRunsCommandInMode :
    ∃ s : State, s.inFlight = none ∧ s.state = .measuring ∧ s.phase = .write ∧
      decodeCmd8 s.mode = some .cmdMeasHigh :=
  ⟨sPhase .write, rfl, rfl, rfl, by decide⟩

theorem witness_StepResumesInFlight : ∃ s : State, s.inFlight = some .hostClose :=
  ⟨{ sOpen with inFlight := some .hostClose }, rfl⟩

theorem witness_ReservedOpcodeIsProgrammingError (op : Byte) (_h : op = 0x00 ∨ 0x08 ≤ op) :
    ∃ s : State, s.Between ∧ s.NoneWaiting ∧ s.state ≠ .measuring ∧ s.hostIn = op :: [0x01] :=
  ⟨{ sOpen with hostIn := [op, 0x01] }, ⟨rfl, rfl⟩, ⟨rfl, rfl⟩, SessionState.noConfusion, rfl⟩

theorem witness_UnfinishedRequestWaits :
    ∃ s : State, s.NoneWaiting ∧ s.state ≠ .measuring ∧ decodeHost s.hostIn = .incomplete ∧
      s.hostIn ≠ [] :=
  ⟨{ sOpen with hostIn := [0x06, 0x02, 0xBE] }, ⟨rfl, rfl⟩, by decide, by decide, by decide⟩

theorem witness_ChecksumIsLinear : ([0xBE, 0xEF] : List Byte).length = [0x01, 0x31].length := rfl

theorem witness_ValidatorVerdict : checksum (buildTable 0x31) [0xBE, 0xEF] 0xFF ≠ 0x93 := by
  decide +kernel

theorem witness_OneAndTwoBitFlipsDetected :
    (0x8001 : Word) = BitVec.twoPow 16 0 ||| BitVec.twoPow 16 15 ∧
    (0x0001 : Word) = BitVec.twoPow 16 0 ||| BitVec.twoPow 16 0 := by decide

theorem witness_Crc8Completes : ∃ s : State, s.state ≠ .measuring := ⟨sOpen, by decide⟩

theorem witness_TemperatureSign :
    (16851 : Word).toNat ≤ 16851 ∧ 16852 ≤ (16852 : Word).toNat := by decide

theorem witness_ConversionsIncrease : (65534 : Word) < 65535 := by decide

theorem witness_DecodeCompletes :
    ∃ s : State, s.state ≠ .measuring ∧ s.Between ∧
      checksum s.table [0x66, 0x66] 0xFF ≠ 0x92 ∧
      (checksum s.table [0x66, 0x66] 0xFF = 0x93 ∧ checksum s.table [0x66, 0x66] 0xFF ≠ 0x92) :=
  ⟨sOpen, by decide, ⟨rfl, rfl⟩, by decide +kernel, by decide +kernel⟩

theorem witness_RegisterDecodeMeetsPureDecoder :
    (∃ (s : State) (x y : F64), decodeFrame s.table s.frame = .measurement x y) ∧
    (∃ s : State, decodeFrame s.table s.frame = .checksumMismatch .humidity 0x93 0x92) :=
  ⟨⟨{ sOpen with frame := frameF7 }, 0xC0404733C733C734, 0x4050C715C715C715, by decide +kernel⟩,
    ⟨{ sOpen with frame := ⟨0x66, 0x66, 0x93, 0x66, 0x66, 0x92⟩ }, by decide +kernel⟩⟩

theorem witness_OpenCompletes :
    (∃ s : State, s.Between ∧ s.state = .opened) ∧
    (∃ s : State, s.Between ∧ s.state = .closed ∧ 0x94 ∉ legalModes) ∧
    (∃ s : State, s.Between ∧ s.state = .closed ∧ 0xFD ∈ legalModes ∧
      s.openAnswers = some h1 :: []) ∧
    (∃ s : State, s.Between ∧ s.state = .closed ∧ 0x30 ∈ legalModes ∧ s.openAnswers = none :: []) ∧
    (∃ s : State, s.Between ∧ s.state = .closed ∧ s.openAnswers = []) :=
  ⟨⟨sOpen, ⟨rfl, rfl⟩, rfl⟩, ⟨State.reset, ⟨rfl, rfl⟩, rfl, by decide⟩,
    ⟨{ State.reset with openAnswers := [some h1] }, ⟨rfl, rfl⟩, rfl, by decide, rfl⟩,
    ⟨{ State.reset with openAnswers := [none] }, ⟨rfl, rfl⟩, rfl, by decide, rfl⟩,
    ⟨State.reset, ⟨rfl, rfl⟩, rfl, rfl⟩⟩

theorem witness_SoftResetCompletes :
    (∃ s : State, s.Between ∧ s.state = .opened ∧ s.handle = some h1 ∧ s.writeAnswers = 0 :: []) ∧
    (∃ s : State, s.Between ∧ s.state = .opened ∧ s.handle = some h1 ∧
      s.writeAnswers = -1 :: [] ∧ (-1 : Int) ≠ 0) ∧
    (∃ s : State, s.Between ∧ s.state = .opened ∧ s.handle = some h1 ∧ s.writeAnswers = []) :=
  ⟨⟨{ sOpen with writeAnswers := [0] }, ⟨rfl, rfl⟩, rfl, rfl, rfl⟩,
    ⟨{ sOpen with writeAnswers := [-1] }, ⟨rfl, rfl⟩, rfl, rfl, rfl, by decide⟩,
    ⟨sOpen, ⟨rfl, rfl⟩, rfl, rfl, rfl⟩⟩

theorem witness_ReadStarts : sOpen.state = .opened := rfl

theorem witness_TriggerCompletes :
    Instr.isMeasurement .cmdHeatLow100ms = true ∧ encode .cmdHeatLow100ms = [0x30] ∧
    (∃ s : State, s.state = .measuring ∧ s.phase = .write ∧ s.handle = some h1 ∧
      s.writeAnswers = 0 :: []) ∧
    (∃ s : State, s.state = .measuring ∧ s.phase = .write ∧ s.handle = some h1 ∧
      s.writeAnswers = 1 :: []) ∧
    (∃ s : State, s.state = .measuring ∧ s.phase = .write ∧ s.handle = some h1 ∧
      s.writeAnswers = []) :=
  ⟨rfl, rfl, ⟨{ sPhase .write with writeAnswers := [0] }, rfl, rfl, rfl, rfl⟩,
    ⟨{ sPhase .write with writeAnswers := [1] }, rfl, rfl, rfl, rfl⟩,
    ⟨sPhase .write, rfl, rfl, rfl, rfl⟩⟩

theorem witness_CommandOutsideItsOperation :
    (∃ s : State, s.Between ∧ s.state = .closed) ∧
    (∃ s : State, s.Between ∧ Instr.isMeasurement .cmdMeasLow = true ∧ s.state ≠ .measuring) :=
  ⟨⟨State.reset, ⟨rfl, rfl⟩, rfl⟩, ⟨sOpen, ⟨rfl, rfl⟩, rfl, by decide⟩⟩

theorem witness_SettleWaits (e : Nat) (times : List Nat) :
    ∃ s : State, s.inFlight = none ∧ s.state = .measuring ∧ s.phase = .settle ∧
      s.settleT = some e ∧ s.timePassing = times :=
  ⟨{ sPhase .settle e with timePassing := times }, rfl, rfl, rfl, rfl, rfl⟩

theorem witness_SettleEnds :
    ∃ s : State, s.inFlight = none ∧ s.state = .measuring ∧ s.phase = .settle ∧
      s.settleT = some 0 ∧ 10000 ≤ 0 + s.timePassing.sum ∧ s.timePassing = [4000, 6000] :=
  ⟨{ sPhase .settle with timePassing := [4000, 6000] }, rfl, rfl, rfl, rfl, by decide, rfl⟩

/-- Lengths 5, 7, 0 and 255 fall under the second clause, 6 under the first. -/
theorem witness_ReadPhase (answers : List ReadAnswer) :
    (∃ s : State, s.inFlight = none ∧ s.state = .measuring ∧ s.phase = .read ∧
      s.handle = some h1 ∧ s.settleT = none ∧ s.readAnswers = answers) ∧
    ([0, 0, 0, 0, 0] : List Byte).length ≠ 6 ∧ ([0, 0, 0, 0, 0, 0, 0] : List Byte).length ≠ 6 ∧
    ([] : List Byte).length ≠ 6 ∧ (List.replicate 255 (0 : Byte)).length ≤ 255 :=
  ⟨⟨{ sPhase .read with readAnswers := answers }, rfl, rfl, rfl, rfl, rfl, rfl⟩,
    by decide, by decide, by decide, by decide⟩

theorem witness_DecodePhase :
    (∃ (s : State) (x y : F64), s.inFlight = none ∧ s.state = .measuring ∧ s.phase = .decode ∧
      s.settleT = none ∧ decodeFrame s.table s.frame = .measurement x y) ∧
    (∃ s : State, s.inFlight = none ∧ s.state = .measuring ∧ s.phase = .decode ∧
      s.settleT = none ∧ decodeFrame s.table s.frame = .checksumMismatch .temperature 0x81 0x00) :=
  ⟨⟨{ sPhase .decode with frame := frameF7 }, 0xC0404733C733C734, 0x4050C715C715C715,
      rfl, rfl, rfl, rfl, by decide +kernel⟩,
    ⟨{ sPhase .decode with frame := ⟨0, 0, 0, 0, 0, 0⟩ }, rfl, rfl, rfl, rfl, by decide +kernel⟩⟩

theorem witness_ReadRunsToMeasurement :
    ∃ s : State, s.Between ∧ s.NoneWaiting ∧ s.state = .opened ∧ s.handle = some h1 ∧
      s.mode ∈ legalModes ∧ s.hostIn = 0x03 :: [] ∧ s.writeAnswers = 0 :: [] ∧
      s.timePassing = 10000 :: [] ∧
      s.readAnswers = .data [0x12, 0x34, 0x37, 0xAB, 0xCD, 0x6F] :: [] ∧
      decodeFrame s.table frameF7 = .measurement 0xC0404733C733C734 0x4050C715C715C715 :=
  ⟨{ sOpen with
      hostIn := [0x03]
      writeAnswers := [0]
      timePassing := [10000]
      readAnswers := [.data [0x12, 0x34, 0x37, 0xAB, 0xCD, 0x6F]] },
    ⟨rfl, rfl⟩, ⟨rfl, rfl⟩, rfl, rfl, by decide, rfl, rfl, rfl, rfl, by decide +kernel⟩

theorem witness_SetmodeCompletes :
    sOpen.Between ∧ sOpen.state = .opened ∧ 0x2F ∈ legalModes ∧ 0x94 ∉ legalModes ∧
      0x00 ∉ legalModes ∧ State.reset.Between ∧ State.reset.state = .closed :=
  ⟨⟨rfl, rfl⟩, rfl, by decide, by decide, by decide, ⟨rfl, rfl⟩, rfl⟩

theorem witness_CloseCompletes :
    (∃ s : State, s.state = .opened ∧ s.handle = some h1 ∧ s.closeAnswers = 0 + 1) ∧
    (∃ s : State, s.state = .opened ∧ s.handle = some h1 ∧ s.closeAnswers = 0) ∧
    (∃ s : State, s.state = .closed) :=
  ⟨⟨{ sOpen with closeAnswers := 1 }, rfl, rfl, rfl⟩, ⟨sOpen, rfl, rfl, rfl⟩, ⟨State.reset, rfl⟩⟩

theorem witness_ClosedSessionMisuse :
    ∃ s : State, s.Between ∧ s.state = .closed ∧ isMeasurementMode 0xFD = true ∧
      s.openAnswers = some h1 :: [] :=
  ⟨{ State.reset with openAnswers := [some h1] }, ⟨rfl, rfl⟩, rfl, by decide, rfl⟩

theorem witness_MeasuringAcceptsNothing :
    ∃ s t : State, s.state = .measuring ∧ s.inFlight = none ∧ step s = .next t :=
  ⟨sPhase .settle 10000, _, rfl, rfl, rfl⟩

theorem witness_ModePersists :
    ∃ s t : State, step s = .next t ∧ t.mode ≠ s.mode :=
  ⟨{ sOpen with hostIn := [0x04, 0xE0] }, _, rfl, by decide⟩

theorem witness_StateKeptByOtherOperations :
    ∃ s t : State, exec (.hostSetmode 0xE0) s = .next t := ⟨sOpen, _, rfl⟩

theorem witness_OneCallPerStep :
    ∃ s t : State, step s = .next t ∧ t.trace = s.trace ++ [.readBytes h1 6] :=
  ⟨sPhase .read, _, rfl, rfl⟩

theorem witness_ProgrammingErrorTouchesNoTransport :
    ∃ s t : State, exec .hostSreset s = .next t ∧ t.status = .programmingError ∧
      t.outstanding = none :=
  ⟨State.reset, _, rfl, rfl, rfl⟩

theorem witness_LeavingMeasuring :
    ∃ s t : State, s.Inv ∧ s.HoldOk ∧ s.state = .measuring ∧ step s = .next t ∧
      t.state ≠ .measuring :=
  ⟨{ sPhase .read with readAnswers := [.error] }, _, inv_of_phase .read 0 (by decide) rfl,
    .inl ⟨rfl, rfl⟩, rfl, rfl, by decide⟩

theorem witness_HostReadsOnlyDefinedRegisters :
    State.reset.valid = false ∧ State.reset.status ≠ .checksumMismatch ∧
      State.reset.status ≠ .readLengthError := by decide

theorem witness_UnansweredCallHoldsForEver :
    ∃ s : State, s.Inv ∧ s.Waiting ∧ s.openAnswers = [] ∧ s.writeAnswers = [] ∧
      s.readAnswers = [] ∧ s.closeAnswers = 0 :=
  ⟨{ sPhase .read with outstanding := some (.readBytes h1 6), trace := [.readBytes h1 6] },
    inv_of_phase .read 0 (by decide) rfl, .inr (.inr (.inr (.inr ⟨h1, rfl, rfl, rfl, rfl⟩))),
    rfl, rfl, rfl, rfl⟩

theorem witness_NoStopFromInvariantStates : (sPhase .write).Inv := inv_of_phase .write 0 (by decide) rfl

theorem witness_StepKeepsInvariants : ∃ s t : State, s.Inv ∧ step s = .next t ∧ t.phase ≠ s.phase :=
  ⟨sPhase .settle 10000, _, inv_of_phase .settle 10000 (by decide) rfl, rfl, by decide⟩

theorem witness_StepKeepsHoldDiscipline :
    ∃ s t : State, s.Inv ∧ s.HoldOk ∧ step s = .next t ∧ t.outstanding = some (.closeBus h1) :=
  ⟨{ sOpen with hostIn := [0x05] }, _, inv_of_same inv_open rfl rfl rfl rfl rfl rfl rfl rfl rfl, .inl ⟨rfl, rfl⟩, rfl, rfl⟩

theorem witness_StepKeepsTransportOrder :
    ∃ s t : State, s.Inv ∧ s.HoldOk ∧ s.OrderOk ∧ step s = .next t ∧
      t.trace = [.writeByte h1 0xFD, .wait 10000] :=
  ⟨{ sPhase .settle 10000 with trace := [.writeByte h1 0xFD] }, _,
    inv_of_phase .settle 10000 (by decide) rfl, .inl ⟨rfl, rfl⟩, (by decide : traceOrder _ = _), rfl, rfl⟩

theorem witness_StepKeepsHandleBalance :
    ∃ s t : State, s.Inv ∧ s.HoldOk ∧ s.ReleaseOk ∧ step s = .next t ∧ t.granted = [h1] :=
  ⟨{ State.reset with openAnswers := [some h1], hostIn := [0x01, 0x01, 0x44, 0xFD] }, _,
    inv_of_same inv_reset rfl rfl rfl rfl rfl rfl rfl rfl rfl, .inl ⟨rfl, rfl⟩, rfl, rfl, rfl⟩

/-- One state that meets the hypotheses for each phase. -/
theorem witness_PhaseAdvancesInOrder :
    (∃ s t : State, s.Inv ∧ step s = .next t ∧ s.phase = .idle ∧ t.phase ≠ s.phase) ∧
    (∃ s t : State, s.Inv ∧ step s = .next t ∧ s.phase = .write ∧ t.phase ≠ s.phase) ∧
    (∃ s t : State, s.Inv ∧ step s = .next t ∧ s.phase = .settle ∧ t.phase ≠ s.phase) ∧
    (∃ s t : State, s.Inv ∧ step s = .next t ∧ s.phase = .read ∧ t.phase ≠ s.phase) ∧
    (∃ s t : State, s.Inv ∧ step s = .next t ∧ s.phase = .decode ∧ t.phase ≠ s.phase) :=
  ⟨⟨{ sOpen with hostIn := [0x03] }, _, inv_of_same inv_open rfl rfl rfl rfl rfl rfl rfl rfl rfl, rfl, rfl, by decide⟩,
    ⟨{ sPhase .write with writeAnswers := [0] }, _, inv_of_phase .write 0 (by decide) rfl, rfl, rfl,
      by decide⟩,
    ⟨sPhase .settle 10000, _, inv_of_phase .settle 10000 (by decide) rfl, rfl, rfl, by decide⟩,
    ⟨{ sPhase .read with readAnswers := [.error] }, _, inv_of_phase .read 0 (by decide) rfl, rfl, rfl,
      by decide⟩,
    ⟨sPhase .decode, _, inv_of_phase .decode 0 (by decide) rfl, rfl, rfl, by
      rw [phaseDecode, decodeAndReport_phase]; decide⟩⟩

theorem witness_ConfigurationPersists :
    ∃ s t : State, step s = .next t ∧ t.cfgAddr ≠ s.cfgAddr :=
  ⟨{ State.reset with openAnswers := [some h1], hostIn := [0x01, 0x01, 0x45, 0xFD] }, _, rfl,
    by decide⟩

theorem witness_ChecksumResultPersists :
    ∃ s t : State, s.state ≠ .measuring ∧ step s = .next t ∧ t.crcAcc ≠ s.crcAcc :=
  ⟨{ State.reset with crcAcc := 0, hostIn := [0x06, 0x00] }, _, by decide, rfl, by decide⟩

end Sys2Proof.Tests
end

section
/-!
SUPPORT. Binary64 rounding keeps order: a larger exact magnitude never rounds to a smaller one. So a
conversion is bounded by its value at the largest raw word, which is computed (R102, R159).
-/

namespace Sys2Proof.Machine

/-! ### Rounding is monotone -/

theorem le_roundEven {m n d : Nat} (h : m ≤ n / d) : m ≤ roundEven n d := by
  unfold roundEven
  split_ifs <;> omega

theorem roundEven_le_div_add_one (n d : Nat) : roundEven n d ≤ n / d + 1 := by
  unfold roundEven
  split_ifs <;> omega

/-- An integer that bounds the quotient bounds its rounding. -/
theorem roundEven_le {m n d : Nat} (hd : 0 < d) (h : n ≤ m * d) : roundEven n d ≤ m := by
  have hq : n / d ≤ m := Nat.div_le_of_le_mul (by rwa [Nat.mul_comm] at h)
  rcases hq.lt_or_eq with hlt | heq
  · exact (roundEven_le_div_add_one n d).trans hlt
  · have hr : n % d = 0 := by
      have hdiv := Nat.div_add_mod n d
      rw [heq, Nat.mul_comm] at hdiv
      omega
    rw [roundEven, if_pos (by omega)]
    exact hq

theorem roundEven_mono {n n' d : Nat} (h : n ≤ n') : roundEven n d ≤ roundEven n' d := by
  rcases (Nat.div_le_div_right (c := d) h).lt_or_eq with hlt | heq
  · exact (roundEven_le_div_add_one n d).trans (le_roundEven hlt)
  · have hr : n % d ≤ n' % d := by
      have hn := Nat.div_add_mod n d
      have hn' := Nat.div_add_mod n' d
      rw [heq] at hn
      omega
    unfold roundEven
    rw [heq]
    split_ifs <;> omega

theorem roundShift_mono {n n' d : Nat} (h : n ≤ n') : roundShift n d ≤ roundShift n' d := by
  have hlog : (n / d).log2 ≤ (n' / d).log2 := by
    rw [Nat.log2_eq_log_two, Nat.log2_eq_log_two]
    exact Nat.log_mono_right (Nat.div_le_div_right h)
  exact Nat.sub_le_sub_right hlog 52

/-- At most 53 bits of a quotient stay after the rounding (or one power of two more). -/
theorem roundEven_shifted_le {n d : Nat} (hd : 0 < d) :
    roundEven n (d * 2 ^ roundShift n d) ≤ 2 ^ 53 := by
  refine roundEven_le (by positivity) ?_
  have hlog : n / d < 2 ^ (53 + roundShift n d) :=
    Nat.lt_log2_self.trans_le (Nat.pow_le_pow_right (by decide) (by unfold roundShift; omega))
  have hn : n < 2 ^ (53 + roundShift n d) * d := (Nat.div_lt_iff_lt_mul hd).mp hlog
  calc n ≤ 2 ^ (53 + roundShift n d) * d := hn.le
    _ = 2 ^ 53 * (d * 2 ^ roundShift n d) := by ring

/-- Where bits are dropped, the full 53 stay. -/
theorem le_roundEven_shifted {n d : Nat} (h : 0 < roundShift n d) :
    2 ^ 52 ≤ roundEven n (d * 2 ^ roundShift n d) := by
  refine le_roundEven ?_
  have hshift : (n / d).log2 = 52 + roundShift n d := by unfold roundShift at *; omega
  have hne : n / d ≠ 0 := by
    intro h0
    rw [roundShift, h0] at h
    exact absurd h (by decide)
  have hlog : 2 ^ (52 + roundShift n d) ≤ n / d := hshift ▸ Nat.log2_self_le hne
  rw [← Nat.div_div_eq_div_mul, Nat.le_div_iff_mul_le (by positivity), ← pow_add]
  exact hlog

theorem roundMag_mono {n n' d : Nat} (hd : 0 < d) (h : n ≤ n') :
    roundMag n d ≤ roundMag n' d := by
  refine min_le_min_right _ ?_
  rcases (roundShift_mono (d := d) h).lt_or_eq with hlt | heq
  · have hlow := roundEven_shifted_le (n := n) hd
    have hhigh := le_roundEven_shifted (Nat.zero_lt_of_lt hlt)
    omega
  · rw [heq]
    exact Nat.add_le_add_left (roundEven_mono h) _

/-! ### The fields of a packed pattern -/

section
variable {neg : Bool} {bits bits' : Nat}

theorem pack_toNat (h : bits < 2 ^ 63) :
    (F64.pack neg bits).toNat = (if neg then 2 ^ 63 else 0) + bits := by
  rw [F64.pack, BitVec.toNat_ofNat]
  split <;> omega

theorem expo_pack (h : bits < 2 ^ 63) : F64.expo (F64.pack neg bits) = bits / 2 ^ 52 := by
  rw [F64.expo, pack_toNat h]
  split <;> omega

theorem frac_pack (h : bits < 2 ^ 63) : F64.frac (F64.pack neg bits) = bits % 2 ^ 52 := by
  rw [F64.frac, pack_toNat h]
  split <;> omega

theorem sign_pack (h : bits < 2 ^ 63) : F64.sign (F64.pack neg bits) = neg := by
  rw [F64.sign, BitVec.getLsbD, pack_toNat h, Nat.testBit_eq_decide_div_mod_eq]
  cases neg <;> simp <;> omega

/-- A pattern below that of infinity is finite. -/
theorem isFinite_pack (h : bits < 2047 * 2 ^ 52) : F64.isFinite (F64.pack neg bits) = true := by
  rw [F64.isFinite, expo_pack (by omega), bne_iff_ne]
  omega

/-- The patterns of one sign are in the order of the magnitudes they stand for. -/
theorem mag_pack_mono (hle : bits ≤ bits') (h : bits' < 2 ^ 63) :
    F64.mag (F64.pack neg bits) ≤ F64.mag (F64.pack neg bits') := by
  simp only [F64.mag, expo_pack h, frac_pack h, expo_pack (hle.trans_lt h),
    frac_pack (hle.trans_lt h)]
  have hexpo : bits / 2 ^ 52 ≤ bits' / 2 ^ 52 := Nat.div_le_div_right hle
  rcases hexpo.lt_or_eq with hlt | heq
  · rw [if_neg (by omega : bits' / 2 ^ 52 ≠ 0)]
    have hhigh : 2 ^ 52 * 2 ^ (bits' / 2 ^ 52 - 1) ≤
        (2 ^ 52 + bits' % 2 ^ 52) * 2 ^ (bits' / 2 ^ 52 - 1) :=
      Nat.mul_le_mul_right _ (by omega)
    split_ifs with h0
    · have hone : 1 ≤ 2 ^ (bits' / 2 ^ 52 - 1) := Nat.one_le_two_pow
      omega
    · calc (2 ^ 52 + bits % 2 ^ 52) * 2 ^ (bits / 2 ^ 52 - 1)
          ≤ 2 ^ 53 * 2 ^ (bits / 2 ^ 52 - 1) := Nat.mul_le_mul_right _ (by omega)
        _ = 2 ^ 52 * 2 ^ (bits / 2 ^ 52 - 1 + 1) := by ring
        _ ≤ 2 ^ 52 * 2 ^ (bits' / 2 ^ 52 - 1) :=
          Nat.mul_le_mul_left _ (Nat.pow_le_pow_right (by decide) (by omega))
        _ ≤ _ := hhigh
  · have hfrac : bits % 2 ^ 52 ≤ bits' % 2 ^ 52 := by omega
    rw [heq]
    split_ifs
    · exact hfrac
    · exact Nat.mul_le_mul_right _ (Nat.add_le_add_left hfrac _)

end

/-! ### Bounds that every operation of a conversion keeps -/

/-- The magnitude of 1, in units of 2^(-1074). -/
@[irreducible] def F64.one : Nat := 2 ^ 1074

theorem F64.one_eq : F64.one = 2 ^ 1074 := by
  unfold F64.one
  rfl

theorem F64.one_pos : 0 < F64.one := by decide +kernel

/-- A finite value from 0 to `k`. -/
structure F64.UpTo (a : F64) (k : Nat) : Prop where
  positive : F64.sign a = false
  finite : F64.isFinite a = true
  mag_le : F64.mag a ≤ k * F64.one

theorem F64.UpTo.scaled_eq {a : F64} {k : Nat} (h : F64.UpTo a k) :
    F64.scaled a = F64.mag a := by
  rw [F64.scaled, h.positive]
  rfl

/-- The rounding of a quotient stays below a bound that is itself a value (`hbound`). -/
theorem roundMag_bounded {n N d k : Nat} (neg : Bool) (hd : 0 < d) (hn : n ≤ N)
    (hfin : roundMag N d < 2047 * 2 ^ 52)
    (hbound : F64.mag (F64.pack neg (roundMag N d)) = k * F64.one) :
    F64.isFinite (F64.pack neg (roundMag n d)) = true ∧
      F64.sign (F64.pack neg (roundMag n d)) = neg ∧
      F64.mag (F64.pack neg (roundMag n d)) ≤ k * F64.one := by
  have hle : roundMag n d ≤ roundMag N d := roundMag_mono hd hn
  exact ⟨isFinite_pack (hle.trans_lt hfin), sign_pack (by omega),
    hbound ▸ mag_pack_mono hle (by omega)⟩

theorem ofInt_natCast (n : Nat) :
    F64.ofInt (n : Int) = F64.pack false (roundMag (n * 2 ^ 1074) 1) := by
  rw [F64.ofInt, Int.natAbs_natCast, decide_eq_false (by omega)]

theorem ofInt_upTo (raw : Word) : F64.UpTo (F64.ofInt raw.toNat) 65535 := by
  obtain ⟨hfin, hsign, hmag⟩ := roundMag_bounded (N := 65535 * 2 ^ 1074) (k := 65535) false
    Nat.one_pos (Nat.mul_le_mul_right _ (Nat.le_pred_of_lt raw.isLt)) (by decide +kernel)
    (by decide +kernel)
  rw [ofInt_natCast]
  exact ⟨hsign, hfin, hmag⟩

/-- `Q` of R156 and R157 lies between 0 and 1. -/
theorem quotient_upTo (raw : Word) :
    F64.UpTo (fdiv (F64.ofInt raw.toNat) (F64.ofInt Config.params.divisor)) 1 := by
  obtain ⟨hs, hf, hm⟩ := ofInt_upTo raw
  have hdf : F64.isFinite (F64.ofInt Config.params.divisor) = true := by decide +kernel
  have hds : F64.sign (F64.ofInt Config.params.divisor) = false := by decide +kernel
  have hdm : F64.mag (F64.ofInt Config.params.divisor) = 65535 * F64.one := by decide +kernel
  have hne : (65535 * F64.one != 0) = true := by decide +kernel
  obtain ⟨hfin, hsign, hmag⟩ := roundMag_bounded (N := 65535 * F64.one * 2 ^ 1074)
    (d := 65535 * F64.one) (k := 1) false (by decide +kernel) (Nat.mul_le_mul_right _ hm)
    (by decide +kernel) (by decide +kernel)
  rw [fdiv, hf, hdf, hdm, hne, hs, hds]
  exact ⟨hsign, hfin, hmag⟩

/-- A span times a value from 0 to 1 is at most the span: the product with 1 is exact (`hbound`). -/
theorem fmul_upTo {a q : F64} {k : Nat} (hs : F64.sign a = false) (hf : F64.isFinite a = true)
    (hq : F64.UpTo q 1) (hfin : roundMag (F64.mag a * F64.one) (2 ^ 1074) < 2047 * 2 ^ 52)
    (hbound : F64.mag (F64.pack false (roundMag (F64.mag a * F64.one) (2 ^ 1074))) =
      k * F64.one) :
    F64.UpTo (fmul a q) k := by
  obtain ⟨hqs, hqf, hqm⟩ := hq
  rw [Nat.one_mul] at hqm
  obtain ⟨hpf, hps, hpm⟩ := roundMag_bounded false (by decide +kernel)
    (Nat.mul_le_mul_left (F64.mag a) hqm) hfin hbound
  rw [fmul, hf, hqf, hs, hqs]
  exact ⟨hps, hpf, hpm⟩

/-! ### The range of the two conversions -/

theorem toRat_eq_div (a : F64) : F64.toRat a = (F64.scaled a : ℚ) / F64.one := by
  rw [F64.one_eq, F64.toRat]
  exact Rat.mkRat_eq_div _ _

/-- Bounds on the scaled value are bounds on the rational it stands for. -/
theorem toRat_bounds {a : F64} {lo hi : Int} (hlo : lo * F64.one ≤ F64.scaled a)
    (hhi : F64.scaled a ≤ hi * F64.one) : (lo : ℚ) ≤ F64.toRat a ∧ F64.toRat a ≤ hi := by
  have hpos : (0 : ℚ) < F64.one := Nat.cast_pos.mpr F64.one_pos
  rw [toRat_eq_div, le_div_iff₀ hpos, div_le_iff₀ hpos]
  exact ⟨by exact_mod_cast hlo, by exact_mod_cast hhi⟩

theorem F64.UpTo.toRat_range {a : F64} {k : Nat} (h : F64.UpTo a k) :
    0 ≤ F64.toRat a ∧ F64.toRat a ≤ k := by
  have hmag := h.mag_le
  have hbounds : ((0 : Int) : ℚ) ≤ F64.toRat a ∧ F64.toRat a ≤ (k : Int) :=
    toRat_bounds (by rw [h.scaled_eq]; omega) (by rw [h.scaled_eq]; exact_mod_cast hmag)
  exact_mod_cast hbounds

/-- An offset of -45 added to a value from 0 to 175 gives a finite value from -45 to 130. -/
theorem fadd_offset_range {a y : F64} (hf : F64.isFinite a = true)
    (hs : F64.scaled a = -45 * (F64.one : Int)) (hy : F64.UpTo y 175) :
    F64.isFinite (fadd a y) = true ∧ -45 ≤ F64.toRat (fadd a y) ∧ F64.toRat (fadd a y) ≤ 130 := by
  have hmag := hy.mag_le
  have hsign : sumSign a y = decide (-45 * (F64.one : Int) + F64.mag y < 0) := by
    rw [sumSign, hs, hy.scaled_eq, hy.positive, Bool.and_false]
    split_ifs with h0
    · exact (decide_eq_false (by omega)).symm
    · rfl
  have hsum : F64.isFinite (fadd a y) = true ∧
      -45 * (F64.one : Int) ≤ F64.scaled (fadd a y) ∧
      F64.scaled (fadd a y) ≤ 130 * F64.one := by
    rw [fadd, hf, hy.finite, hsign, hs, hy.scaled_eq]
    by_cases hneg : -45 * (F64.one : Int) + F64.mag y < 0
    · obtain ⟨hf, hs, hm⟩ := roundMag_bounded (N := 45 * F64.one) (d := 1) (k := 45)
        (n := (-45 * (F64.one : Int) + F64.mag y).natAbs) true Nat.one_pos (by omega)
        (by decide +kernel) (by decide +kernel)
      simp only [Bool.and_self, if_true, hneg, decide_true, F64.scaled, hs]
      exact ⟨hf, by omega, by omega⟩
    · obtain ⟨hf, hs, hm⟩ := roundMag_bounded (N := 130 * F64.one) (d := 1) (k := 130)
        (n := (-45 * (F64.one : Int) + F64.mag y).natAbs) false Nat.one_pos (by omega)
        (by decide +kernel) (by decide +kernel)
      simp only [Bool.and_self, if_true, hneg, decide_false, F64.scaled, hs, Bool.false_eq_true,
        if_false]
      exact ⟨hf, by omega, by omega⟩
  obtain ⟨hfin, hlo, hhi⟩ := hsum
  have hbounds := toRat_bounds (lo := -45) (hi := 130) hlo hhi
  exact ⟨hfin, mod_cast hbounds⟩

/-- Every temperature is finite and lies in [-45, 130] (R102, R159). -/
theorem convT_range (raw : Word) :
    F64.isFinite (convT raw) = true ∧
      -45 ≤ F64.toRat (convT raw) ∧ F64.toRat (convT raw) ≤ 130 :=
  fadd_offset_range (by decide +kernel) (by decide +kernel)
    (fmul_upTo (by decide +kernel) (by decide +kernel) (quotient_upTo raw) (by decide +kernel)
      (by decide +kernel))

/-- Every humidity is finite and lies in [0, 100] (R102, R159). -/
theorem convH_range (raw : Word) :
    F64.isFinite (convH raw) = true ∧ 0 ≤ F64.toRat (convH raw) ∧ F64.toRat (convH raw) ≤ 100 :=
  have h : F64.UpTo (convH raw) 100 :=
    fmul_upTo (by decide +kernel) (by decide +kernel) (quotient_upTo raw) (by decide +kernel)
      (by decide +kernel)
  ⟨h.finite, h.toRat_range⟩

end Sys2Proof.Machine
end

section
/-!
SUPPORT. Each shared operation keeps the invariants of R37; then every instruction and every step.
-/

namespace Sys2Proof.Machine

/-! ### The operations keep the invariants -/

/-- The registers that the invariants speak of. -/
def State.invRegs (s : State) : SessionState × Phase × Option Handle × Byte × CrcTable × Bool ×
    Option F64 × Option F64 × Option Nat :=
  (s.state, s.phase, s.handle, s.mode, s.table, s.valid, s.temp, s.hum, s.settleT)

/-- An operation that writes none of those registers keeps the invariants. -/
theorem State.Inv.congr {s t : State} (hs : s.Inv)
    (h : t.invRegs = s.invRegs := by unfold State.invRegs; rfl) : t.Inv := by
  simp only [State.invRegs, Prod.mk.injEq] at h
  obtain ⟨hstate, hphase, hhandle, hmode, htable, hvalid, htemp, hhum, hsettle⟩ := h
  exact inv_of_same hs hstate hphase hhandle hmode htable hvalid htemp hhum hsettle

theorem State.Inv.idle {s : State} (hs : s.Inv) (h : s.state ≠ .measuring) : s.phase = .idle :=
  hs.phase_idle_iff.mpr h

theorem State.Inv.no_timer {s : State} (hs : s.Inv) (h : s.phase ≠ .settle) :
    s.settleT = none := by
  rw [← Option.not_isSome_iff_eq_none, hs.timer_iff_settle]
  exact h

theorem finish_inv {s : State} {st : Status} {d : Detail} (hs : s.Inv) : (finish st d s).Inv :=
  hs.congr

theorem finishOk_inv {s : State} (hs : s.Inv) : (finishOk s).Inv := finish_inv hs

theorem loseScratch_inv {s : State} (hs : s.Inv) : (loseScratch s).Inv := hs.congr

/-- The way out of a `READ` (R189): the timer stops, and a handle that was held is held in
`Open`. -/
theorem leaveMeasuring_inv {s : State} (hs : s.Inv) : (leaveMeasuring s).Inv where
  handle_none_iff_closed := by
    rw [leaveMeasuring_handle, leaveMeasuring_state, hs.handle_none_iff_closed]
    split_ifs with h <;> simp [h]
  phase_idle_iff := by
    rw [leaveMeasuring_phase, leaveMeasuring_state]
    split_ifs with h <;> simp [h]
  mode_legal := hs.mode_legal
  table_built := hs.table_built
  temp_iff_valid := hs.temp_iff_valid
  hum_iff_valid := hs.hum_iff_valid
  temp_range := hs.temp_range
  hum_range := hs.hum_range
  timer_iff_settle := by simp
  measuring_not_valid := by
    rw [leaveMeasuring_state]
    split_ifs with h <;> simp [h]

theorem leaveMeasuring_not_measuring (s : State) : (leaveMeasuring s).state ≠ .measuring := by
  rw [leaveMeasuring_state]
  split_ifs with h <;> simp [h]

theorem raise_inv {s : State} {e : Raised} (hs : s.Inv) : (raise e s).Inv :=
  finish_inv (leaveMeasuring_inv hs)

theorem clearMeasurement_inv {s : State} (hs : s.Inv) : (clearMeasurement s).Inv :=
  { hs with
    temp_iff_valid := rfl
    hum_iff_valid := rfl
    temp_range := by simp
    hum_range := by simp
    measuring_not_valid := fun _ => rfl }

/-- Two results of the conversions, written outside `Measuring`, are in their ranges (R159). -/
theorem setMeasurement_inv {s : State} {rawT rawH : Word} (hs : s.Inv)
    (h : s.state ≠ .measuring) : (setMeasurement (convT rawT) (convH rawH) s).Inv :=
  { hs with
    temp_iff_valid := rfl
    hum_iff_valid := rfl
    temp_range := by
      intro t ht
      rw [setMeasurement_temp, Option.some.injEq] at ht
      exact ht ▸ (convT_range rawT).2
    hum_range := by
      intro t ht
      rw [setMeasurement_hum, Option.some.injEq] at ht
      exact ht ▸ (convH_range rawH).2
    measuring_not_valid := fun hm => absurd hm h }

theorem decodeFrame_measurement {tbl : CrcTable} {f : RawFrame} {x y : F64}
    (h : decodeFrame tbl f = .measurement x y) :
    x = convT (word16 f.tHi f.tLo) ∧ y = convH (word16 f.hHi f.hLo) := by
  unfold decodeFrame at h
  split at h
  · cases h
  · split at h
    · cases h
    · injection h with hx hy
      exact ⟨hx.symm, hy.symm⟩

theorem decodeAndReport_inv {s : State} (hs : s.Inv) : (decodeAndReport s).Inv := by
  rcases decodeAndReport_cases s with ⟨x, y, h⟩ | ⟨field, e, a, h⟩
  · obtain ⟨t, -, hdecode, ht⟩ := decodeAndReport_measurement h
    obtain ⟨hx, hy⟩ := decodeFrame_measurement h
    have htInv : t.Inv := by
      rw [ht]
      exact hs.congr
    rw [hdecode, hx, hy]
    exact finishOk_inv (loseScratch_inv
      (setMeasurement_inv (leaveMeasuring_inv htInv) (leaveMeasuring_not_measuring t)))
  · obtain ⟨c, hdecode⟩ := decodeAndReport_mismatch h
    rw [hdecode]
    exact raise_inv (loseScratch_inv hs.congr)

/-- A session opens with a handle and a legal mode (R182). -/
theorem startSession_inv {s : State} {h : Handle} {bus addr mode : Byte} (hs : s.Inv)
    (hc : s.state = .closed) (hm : isMeasurementMode mode = true) :
    (startSession h bus addr mode s).Inv :=
  { hs with
    handle_none_iff_closed := by simp
    phase_idle_iff := by simp [hs.idle (by simp [hc])]
    mode_legal := (isMeasurementMode_iff mode).mp hm
    measuring_not_valid := by simp }

theorem setMode_inv {s : State} {mode : Byte} (hs : s.Inv)
    (hm : isMeasurementMode mode = true) : { s with mode := mode }.Inv :=
  { hs with mode_legal := (isMeasurementMode_iff mode).mp hm }

/-- `CLOSE` gives up the handle with the state (R191). -/
theorem release_inv {s : State} (hs : s.Inv) (ho : s.state = .opened) :
    { s with handle := none, state := .closed }.Inv :=
  { hs with
    handle_none_iff_closed := by simp
    phase_idle_iff := by simp [hs.idle (by simp [ho])]
    measuring_not_valid := by simp }

/-- A `READ` begins on an open handle, with `VALID` cleared and no timer (R184). -/
theorem startRead_inv {s : State} (hs : s.Inv) (ho : s.state = .opened) : (startRead s).Inv :=
  { clearMeasurement_inv hs with
    handle_none_iff_closed := by simp [hs.handle_none_iff_closed, ho]
    phase_idle_iff := by simp
    timer_iff_settle := by simp [hs.no_timer (by simp [hs.idle, ho])]
    measuring_not_valid := fun _ => rfl }

/-- The timer starts with phase `SETTLE`, within a `READ` (R33). -/
theorem enterSettle_inv {s : State} (hs : s.Inv) (hm : s.state = .measuring) :
    (enterSettle s).Inv :=
  { hs with
    phase_idle_iff := by simp [hm]
    timer_iff_settle := by simp }

theorem loadFrame_inv {s : State} {f : RawFrame} (hs : s.Inv) (hm : s.state = .measuring)
    (hp : s.phase = .read) : (loadFrame f s).Inv :=
  { hs with
    phase_idle_iff := by simp [hm]
    timer_iff_settle := by simp [hs.no_timer (by simp [hp])] }

/-- Phase `SETTLE` ends with its timer, or goes on with it (R186). -/
theorem phaseSettle_inv {s : State} (hs : s.Inv) (hm : s.state = .measuring)
    (hp : s.phase = .settle) : (phaseSettle s).Inv := by
  obtain ⟨e, he⟩ := Option.isSome_iff_exists.mp (hs.timer_iff_settle.mpr hp)
  rcases phaseSettle_cases he with ⟨-, h⟩ | ⟨-, d, rest, -, h⟩ | ⟨-, -, h⟩ <;> rw [h]
  · exact { hs with phase_idle_iff := by simp [hm], timer_iff_settle := by simp }
  · exact { hs with timer_iff_settle := by simp [hp] }
  · exact hs

/-! ### Every instruction and every step keeps the invariants -/

theorem Effect.inv {i : Instr} {s t : State} (hs : s.Inv) (h : Effect s i t) : t.Inv := by
  cases h with
  | notAccepted => exact hs
  | misuse => exact raise_inv hs
  | openHeld | softResetHeld | closeHeld | triggerHeld => exact hs.congr
  | openError => exact raise_inv hs.congr
  | opened _ _ _ _ _ hc hm => exact finishOk_inv (startSession_inv hs.congr hc hm)
  | softReset =>
    dsimp only
    split_ifs
    · exact finishOk_inv hs.congr
    · exact raise_inv hs.congr
  | readStarts ho => exact startRead_inv hs ho
  | modeSet _ _ hm => exact finishOk_inv (setMode_inv hs hm)
  | closedAlready => exact finishOk_inv hs
  | closed _ _ ho => exact (release_inv hs ho).congr
  | crc8 =>
    rw [crcFold_eq]
    exact hs.congr
  | decode => exact decodeAndReport_inv (clearMeasurement_inv hs).congr
  | trigger _ _ _ _ _ _ _ _ hm =>
    dsimp only
    split_ifs
    · exact enterSettle_inv hs.congr hm
    · exact raise_inv hs.congr

theorem StepEffect.inv {s t : State} (hs : s.Inv) (h : StepEffect s t) : t.Inv := by
  cases h with
  | resumed _ _ _ heffect => exact heffect.inv hs
  | requested _ _ _ _ _ _ heffect => exact heffect.inv hs.congr
  | reserved => exact raise_inv hs.congr
  | nothing => exact hs
  | commanded _ _ _ _ _ _ heffect => exact heffect.inv hs
  | settle _ hm hp => exact phaseSettle_inv hs hm hp
  | readHeld => exact hs.congr
  | readFailed => exact raise_inv hs.congr
  | readDone _ _ _ _ _ hm hp => exact loadFrame_inv hs.congr hm hp
  | decoded => exact decodeAndReport_inv hs

/-- Settles O54: the inversion of a step, and each operation it can end with. -/
theorem stepKeepsInvariants : Obligations.StepKeepsInvariants :=
  fun _ _ hs h => (step_effect h).inv hs

end Sys2Proof.Machine
end

section
/-!
SUPPORT. What a step may write besides: `PHASE` in its order, the session's configuration,
`CRC_ACC`, `STATE`; then reset and the host's view.
-/

namespace Sys2Proof.Machine

/-! ### The order of `PHASE` -/

/-- How a step may move `PHASE` from `p`, ending in `t` (R22, R186). -/
inductive PhaseMove (p : Phase) (t : State) : Prop where
  | kept : t.phase = p → PhaseMove p t
  | started : p = .idle → t.phase = .write → PhaseMove p t
  | triggered : p = .write → t.phase = .settle → PhaseMove p t
  | rejected : p = .write → t.phase = .idle → t.status = .commandError → PhaseMove p t
  | settled : p = .settle → t.phase = .read → PhaseMove p t
  | received : p = .read → t.phase = .decode → PhaseMove p t
  | failed : p = .read → t.phase = .idle → t.status = .readLengthError → PhaseMove p t
  | reported : p = .decode → t.phase = .idle → PhaseMove p t

/-- An instruction moves `PHASE` only to start a `READ` or, in phase `WRITE`, to act on the answer
to its command (R184, R185). -/
theorem Effect.phaseMove {i : Instr} {s t : State} (hs : s.Inv) (h : Effect s i t) :
    PhaseMove s.phase t := by
  cases h with
  | notAccepted | openHeld | opened | softResetHeld | modeSet | closedAlready | closeHeld | closed
    | triggerHeld => exact .kept rfl
  | misuse _ hm => exact .kept (hs.idle hm).symm
  | openError _ _ _ _ hc => exact .kept (hs.idle (by simp [hc])).symm
  | softReset _ _ _ _ _ ho =>
    dsimp only
    split_ifs
    · exact .kept rfl
    · exact .kept (hs.idle (by simp [ho])).symm
  | readStarts ho => exact .started (hs.idle (by simp [ho])) rfl
  | crc8 =>
    rw [crcFold_eq]
    exact .kept rfl
  | decode _ _ _ _ _ _ hm => exact .kept (by rw [decodeAndReport_phase, hs.idle hm])
  | trigger _ _ _ _ _ _ _ _ _ hp =>
    dsimp only
    split_ifs
    · exact .triggered hp rfl
    · exact .rejected hp rfl rfl

/-- Phase `SETTLE` stays or goes on to phase `READ`; it writes no configuration (R186). -/
theorem phaseSettle_frame (s : State) :
    ((phaseSettle s).phase = s.phase ∨ (phaseSettle s).phase = .read) ∧
      (phaseSettle s).cfgBus = s.cfgBus ∧ (phaseSettle s).cfgAddr = s.cfgAddr := by
  unfold phaseSettle
  dsimp only
  split_ifs
  · exact ⟨.inr rfl, rfl, rfl⟩
  · split <;> exact ⟨.inl rfl, rfl, rfl⟩

theorem StepEffect.phaseMove {s t : State} (hs : s.Inv) (h : StepEffect s t) :
    PhaseMove s.phase t := by
  cases h with
  | resumed _ _ _ heffect => exact heffect.phaseMove hs
  | requested _ _ _ _ _ _ heffect =>
    have hmove := heffect.phaseMove hs.congr
    exact hmove
  | reserved _ _ _ hm => exact .kept (hs.idle hm).symm
  | nothing => exact .kept rfl
  | commanded _ _ _ _ _ _ heffect => exact heffect.phaseMove hs
  | settle _ _ hp => exact (phaseSettle_frame s).1.elim .kept (.settled hp)
  | readHeld => exact .kept rfl
  | readFailed _ _ _ _ _ _ _ hp => exact .failed hp rfl rfl
  | readDone _ _ _ _ _ _ hp => exact .received hp rfl
  | decoded _ _ hp => exact .reported hp (decodeAndReport_phase s)

/-- Settles O58: every step is one of the moves of `PhaseMove`. -/
theorem phaseAdvancesInOrder : Obligations.PhaseAdvancesInOrder := by
  intro s t hs h hne
  cases (step_effect h).phaseMove hs with
  | kept hkept => exact absurd hkept hne
  | started hp ht | triggered hp ht | settled hp ht | received hp ht | reported hp ht =>
    simp [hp, ht]
  | rejected hp ht hst | failed hp ht hst => simp [hp, ht, hst]

/-! ### The configuration and `CRC_ACC` -/

theorem fetch_inFlight {s : State} {i : Instr} (h : s.inFlight = some i) :
    fetch s = .instr i s := by
  simp [fetch, h]

theorem fetch_request {s : State} {i : Instr} {rest : List Byte} (hf : s.inFlight = none)
    (hm : s.state ≠ .measuring) (hd : decodeHost s.hostIn = .instr i rest) :
    fetch s = .instr i { s with hostIn := rest } := by
  cases hs : s.state with
  | measuring => exact absurd hs hm
  | closed | opened => simp [fetch, fetchHost, hf, hs, hd]

theorem fetch_command {s : State} {i : Instr} (hf : s.inFlight = none)
    (hm : s.state = .measuring) (hp : s.phase = .write) (hd : decodeCmd8 s.mode = some i) :
    fetch s = .instr i s := by
  simp [fetch, fetchMeasuring, hf, hm, hp, hd]

/-- A step runs a fetched instruction, in a state that differs at most in the host port; or it runs
none, and then writes no configuration and, outside `Measuring`, not `CRC_ACC`. -/
theorem StepEffect.instr_or_kept {s t : State} (h : StepEffect s t) :
    (∃ i rest, fetch s = .instr i { s with hostIn := rest } ∧
      Effect { s with hostIn := rest } i t) ∨
    (t.cfgBus = s.cfgBus ∧ t.cfgAddr = s.cfgAddr ∧
      (s.state ≠ .measuring → t.crcAcc = s.crcAcc)) := by
  cases h with
  | resumed i _ hf heffect => exact .inl ⟨i, s.hostIn, fetch_inFlight hf, heffect⟩
  | requested i rest _ hf hm hd heffect => exact .inl ⟨i, rest, fetch_request hf hm hd, heffect⟩
  | commanded i _ hf hm hp hd heffect =>
    exact .inl ⟨i, s.hostIn, fetch_command hf hm hp hd, heffect⟩
  | reserved | nothing => exact .inr ⟨rfl, rfl, fun _ => rfl⟩
  | settle _ hm =>
    obtain ⟨-, hbus, haddr⟩ := phaseSettle_frame s
    exact .inr ⟨hbus, haddr, fun h => absurd hm h⟩
  | readHeld _ _ hm | readFailed _ _ _ _ _ _ hm | readDone _ _ _ _ _ hm =>
    exact .inr ⟨rfl, rfl, fun h => absurd hm h⟩
  | decoded _ hm =>
    exact .inr ⟨decodeAndReport_cfgBus s, decodeAndReport_cfgAddr s, fun h => absurd hm h⟩

/-- Only an `OPEN` that is answered with a handle writes the configuration (R24, R182). -/
theorem Effect.cfg_kept_or_opened {i : Instr} {s t : State} (h : Effect s i t) :
    (t.cfgBus = s.cfgBus ∧ t.cfgAddr = s.cfgAddr) ∨
    (t.status = .ok ∧ s.state = .closed ∧ ∃ mode, i = .hostOpen t.cfgBus t.cfgAddr mode) := by
  cases h with
  | opened _ _ mode _ _ hc => exact .inr ⟨rfl, hc, mode, rfl⟩
  | softReset | trigger =>
    dsimp only
    split_ifs <;> exact .inl ⟨rfl, rfl⟩
  | crc8 =>
    rw [crcFold_eq]
    exact .inl ⟨rfl, rfl⟩
  | decode => exact .inl ⟨decodeAndReport_cfgBus _, decodeAndReport_cfgAddr _⟩
  | _ => exact .inl ⟨rfl, rfl⟩

/-- Outside `Measuring` only `CRC8`, `DECODE` and an accepted `READ` write `CRC_ACC` (R27). -/
theorem Effect.crcAcc_kept_or_written {i : Instr} {s t : State} (h : Effect s i t) :
    t.crcAcc = s.crcAcc ∨ (∃ d, i = .hostCrc8 d) ∨
      (∃ f0 f1 f2 f3 f4 f5, i = .hostDecode f0 f1 f2 f3 f4 f5) ∨
      (i = .hostRead ∧ s.state = .opened) := by
  cases h with
  | readStarts ho => exact .inr (.inr (.inr ⟨rfl, ho⟩))
  | crc8 data => exact .inr (.inl ⟨data, rfl⟩)
  | decode f0 f1 f2 f3 f4 f5 => exact .inr (.inr (.inl ⟨f0, f1, f2, f3, f4, f5, rfl⟩))
  | softReset | trigger =>
    dsimp only
    split_ifs <;> exact .inl rfl
  | _ => exact .inl rfl

/-- Settles O59: a step that changes the configuration runs an instruction, and it is an `OPEN` that
has succeeded. -/
theorem configurationPersists : Obligations.ConfigurationPersists := by
  intro s t h hchanged
  rcases (step_effect h).instr_or_kept with ⟨i, rest, hfetch, heffect⟩ | ⟨hbus, haddr, -⟩
  · rcases heffect.cfg_kept_or_opened with ⟨hbus, haddr⟩ | ⟨hok, hclosed, mode, rfl⟩
    · exact (hchanged.elim (· hbus) (· haddr)).elim
    · exact ⟨hok, mode, _, hfetch, hclosed⟩
  · exact (hchanged.elim (· hbus) (· haddr)).elim

/-- Settles O60: a step that changes `CRC_ACC` outside `Measuring` runs one of the three
instructions that write it. -/
theorem checksumResultPersists : Obligations.ChecksumResultPersists := by
  intro s t hm h hchanged
  rcases (step_effect h).instr_or_kept with ⟨i, rest, hfetch, heffect⟩ | ⟨-, -, hkept⟩
  · exact ⟨i, _, hfetch, heffect.crcAcc_kept_or_written.resolve_left hchanged⟩
  · exact absurd (hkept hm) hchanged

/-! ### `STATE` -/

/-- An instruction that is no `OPEN`, `READ` or `CLOSE` and no measurement command keeps `STATE`. -/
theorem Effect.state_kept {i : Instr} {s t : State} (h : Effect s i t)
    (hopen : ∀ bus addr mode, i ≠ .hostOpen bus addr mode) (hread : i ≠ .hostRead)
    (hclose : i ≠ .hostClose) (hmeas : i.isMeasurement = false) : t.state = s.state := by
  cases h with
  | notAccepted | softResetHeld | modeSet => rfl
  | misuse _ hm => exact if_neg hm
  | openHeld bus addr mode | openError bus addr mode | opened bus addr mode =>
    exact absurd rfl (hopen bus addr mode)
  | softReset _ _ _ _ _ ho =>
    dsimp only
    split_ifs
    · rfl
    · exact if_neg (by simp [ho])
  | readStarts => exact absurd rfl hread
  | closedAlready | closeHeld | closed => exact absurd rfl hclose
  | crc8 => rw [crcFold_eq]; rfl
  | decode _ _ _ _ _ _ hm =>
    rw [decodeAndReport_state]
    exact if_neg hm
  | triggerHeld _ _ _ hi | trigger _ _ _ _ _ hi => rw [hi] at hmeas; cases hmeas

/-- Settles O47: each of the four operations is one that keeps `STATE`. -/
theorem stateKeptByOtherOperations : Obligations.StateKeptByOtherOperations := by
  intro s t i hi h
  rcases hi with rfl | ⟨m, rfl⟩ | ⟨d, rfl⟩ | ⟨f0, f1, f2, f3, f4, f5, rfl⟩ <;>
    exact (exec_effect h).state_kept (by simp) (by simp) (by simp) rfl

/-! ### Reset and the host's view -/

theorem reset_inv : State.reset.Inv where
  handle_none_iff_closed := by decide
  phase_idle_iff := by decide
  mode_legal := by decide
  table_built := rfl
  temp_iff_valid := rfl
  hum_iff_valid := rfl
  temp_range := by simp [State.reset]
  hum_range := by simp [State.reset]
  timer_iff_settle := by decide
  measuring_not_valid := fun _ => rfl

/-- Settles O12: register by register, and the table entry by entry. -/
theorem resetLeavesGivenValues : Obligations.ResetLeavesGivenValues :=
  ⟨rfl, rfl, rfl, rfl, rfl, look_buildTable 0x31, rfl, rfl, rfl, rfl, rfl⟩

/-- Settles O13: nothing waits, and the trace and the list of granted handles are empty. -/
theorem resetMeetsInvariants : Obligations.ResetMeetsInvariants :=
  ⟨reset_inv, .inl ⟨rfl, rfl⟩, .inl rfl, rfl⟩

/-- Settles O51: each register of the view is guarded by the condition that defines it. -/
theorem hostReadsOnlyDefinedRegisters : Obligations.HostReadsOnlyDefinedRegisters := by
  intro s
  refine ⟨fun hvalid => ?_, fun hne => ?_, fun hne => ?_, fun hne hne' => ?_⟩
  · simp [hostView, hvalid]
  · simp [hostView, hne]
  · simp [hostView, hne]
  · simp [hostView, hne, hne']

end Sys2Proof.Machine
end

section
/-!
SUPPORT. The hold discipline and the transport order: which operation a step runs, which call that
operation may find outstanding, and where its own call leaves the trace.
-/

namespace Sys2Proof.Machine

/-! ### What a step runs and adds to the trace -/

/-- Settles O7: the fetch finds the request and takes it off the port. -/
theorem stepRunsHostRequest : Obligations.StepRunsHostRequest := by
  intro s i rest hf hm hd
  rw [step, fetch_request hf hm hd]

/-- Settles O9: the fetch finds the operation in flight before anything else. -/
theorem stepResumesInFlight : Obligations.StepResumesInFlight := by
  intro s i hf
  rw [step, fetch_inFlight hf]

/-- `t` has the trace of `s`, or that trace and one more entry. -/
def State.TraceGrows (s t : State) : Prop := t.trace = s.trace ∨ ∃ c, t.trace = s.trace ++ [c]

/-- A call that is outstanding already is not issued again (R65). -/
theorem issue_traceGrows (c : XportCall) (s : State) : s.TraceGrows (issue c s) := by
  unfold State.TraceGrows
  rw [issue_trace]
  split_ifs
  · exact .inl rfl
  · exact .inr ⟨c, rfl⟩

/-- Phase `SETTLE` records its wait once, when it ends (R200). -/
theorem phaseSettle_traceGrows (s : State) : s.TraceGrows (phaseSettle s) := by
  unfold phaseSettle
  dsimp only
  split_ifs
  · exact .inr ⟨_, rfl⟩
  · split <;> exact .inl rfl

theorem Effect.traceGrows {i : Instr} {s t : State} (h : Effect s i t) : s.TraceGrows t := by
  cases h with
  | openHeld | openError | opened | softResetHeld | closeHeld | closed | triggerHeld =>
    exact issue_traceGrows _ s
  | softReset | trigger =>
    dsimp only
    split_ifs <;> exact issue_traceGrows _ s
  | crc8 =>
    rw [crcFold_eq]
    exact .inl rfl
  | decode => exact .inl (decodeAndReport_trace _)
  | notAccepted | misuse | readStarts | modeSet | closedAlready => exact .inl rfl

theorem StepEffect.traceGrows {s t : State} (h : StepEffect s t) : s.TraceGrows t := by
  cases h with
  | resumed _ _ _ heffect => exact heffect.traceGrows
  | requested _ _ _ _ _ _ heffect => exact heffect.traceGrows
  | commanded _ _ _ _ _ _ heffect => exact heffect.traceGrows
  | reserved | nothing => exact .inl rfl
  | settle => exact phaseSettle_traceGrows s
  | readHeld | readFailed | readDone => exact issue_traceGrows _ s
  | decoded => exact .inl (decodeAndReport_trace s)

/-- Settles O48: each operation issues one call at most, and phase `SETTLE` records one wait. -/
theorem oneCallPerStep : Obligations.OneCallPerStep :=
  fun _ _ h => (step_effect h).traceGrows

/-! ### The hold discipline -/

/-- The sequencer runs `i` in `s`: nothing else is in flight, and in `Measuring` `i` is the command
in `MODE` (R185, R197). -/
structure Runs (i : Instr) (s : State) : Prop where
  inFlight : s.inFlight = none ∨ s.inFlight = some i
  command : s.state = .measuring → decodeCmd8 s.mode = some i

/-- What is in flight is an `OPEN`, a soft reset or a `CLOSE`: never in `Measuring`, and no
`READ`. -/
theorem State.HoldOk.of_inFlight {s : State} {i : Instr} (hk : s.HoldOk)
    (hf : s.inFlight = some i) : s.state ≠ .measuring ∧ i ≠ .hostRead := by
  have hsome : s.inFlight ≠ none := by simp [hf]
  rcases hk with ⟨hnone, -⟩ | ⟨_, _, _, hs, -, hi, -⟩ | ⟨_, hs, -, hi, -⟩ | ⟨_, hs, -, hi, -⟩ |
    ⟨_, -, -, hnone, -⟩ | ⟨_, -, -, hnone, -⟩
  · exact absurd hnone hsome
  · simp [hs, Option.some.inj (hf.symm.trans hi)]
  · simp [hs, Option.some.inj (hf.symm.trans hi)]
  · simp [hs, Option.some.inj (hf.symm.trans hi)]
  · exact absurd hnone hsome
  · exact absurd hnone hsome

theorem State.HoldOk.inFlight_measuring {s : State} (hk : s.HoldOk) (hm : s.state = .measuring) :
    s.inFlight = none :=
  Option.eq_none_iff_forall_ne_some.mpr fun _ hf => (hk.of_inFlight hf).1 hm

/-- With nothing in flight, only the trigger of phase `WRITE` or the read of phase `READ` can be
outstanding. -/
theorem State.HoldOk.outstanding_cases {s : State} (hk : s.HoldOk) (hf : s.inFlight = none) :
    s.outstanding = none ∨
    (s.phase = .write ∧ ∃ h, s.handle = some h ∧ s.outstanding = some (.writeByte h s.mode)) ∨
    (s.phase = .read ∧ ∃ h, s.handle = some h ∧ s.outstanding = some (.readBytes h 6)) := by
  rcases hk with ⟨-, hnone⟩ | ⟨_, _, _, -, -, hi, -⟩ | ⟨_, -, -, hi, -⟩ | ⟨_, -, -, hi, -⟩ |
    ⟨h, hp, hh, -, hout⟩ | ⟨h, hp, hh, -, hout⟩
  · exact .inl hnone
  · cases hf.symm.trans hi
  · cases hf.symm.trans hi
  · cases hf.symm.trans hi
  · exact .inr (.inl ⟨hp, h, hh, hout⟩)
  · exact .inr (.inr ⟨hp, h, hh, hout⟩)

/-- Outside the two phases that call the transport, with nothing in flight, nothing waits. -/
theorem State.HoldOk.noneWaiting {s : State} (hk : s.HoldOk) (hf : s.inFlight = none)
    (hw : s.phase ≠ .write) (hr : s.phase ≠ .read) : s.NoneWaiting := by
  rcases hk.outstanding_cases hf with hnone | ⟨hp, -⟩ | ⟨hp, -⟩
  · exact ⟨hf, hnone⟩
  · exact absurd hp hw
  · exact absurd hp hr

/-- A `READ` is accepted only when nothing waits (R69 b). -/
theorem Runs.noneWaiting {s : State} (hrun : Runs .hostRead s) (hs : s.Inv) (hk : s.HoldOk)
    (ho : s.state = .opened) : s.NoneWaiting := by
  have hp : s.phase = .idle := hs.idle (by simp [ho])
  have hf : s.inFlight = none :=
    hrun.inFlight.resolve_right fun hread => (hk.of_inFlight hread).2 rfl
  exact hk.noneWaiting hf (by simp [hp]) (by simp [hp])

/-- A byte of the command map is the encoding of its command (R92). -/
theorem encode_of_decodeCmd8 {b : Byte} {i : Instr} (h : decodeCmd8 b = some i) :
    encode i = [b] := by
  have hrows : ∀ row ∈ cmdRows, encode row.2 = [row.1] := by decide
  obtain ⟨row, hfind, rfl⟩ := Option.map_eq_some_iff.mp h
  rw [hrows row (List.mem_of_find?_eq_some hfind), eq_of_beq (List.find?_some hfind :)]

/-- In phase `WRITE` the command that runs writes the byte in `MODE`. -/
theorem Runs.mode_eq {i : Instr} {s : State} {cmd : Byte} (hrun : Runs i s)
    (hm : s.state = .measuring) (he : encode i = [cmd]) : s.mode = cmd := by
  rw [encode_of_decodeCmd8 (hrun.command hm)] at he
  exact List.head_eq_of_cons_eq he

theorem Runs.of_inFlight {i : Instr} {s : State} (hk : s.HoldOk) (hf : s.inFlight = some i) :
    Runs i s :=
  ⟨.inr hf, fun hm => absurd hm (hk.of_inFlight hf).1⟩

theorem Runs.of_request {i : Instr} {s : State} {rest : List Byte} (hf : s.inFlight = none)
    (hm : s.state ≠ .measuring) : Runs i { s with hostIn := rest } :=
  ⟨.inl hf, fun h => absurd h hm⟩

theorem Runs.of_command {i : Instr} {s : State} (hf : s.inFlight = none)
    (hd : decodeCmd8 s.mode = some i) : Runs i s :=
  ⟨.inl hf, fun _ => hd⟩

/-- An instruction leaves nothing waiting, or holds with the one call it has issued (R197). -/
theorem Effect.holdOk {i : Instr} {s t : State} (hs : s.Inv) (hk : s.HoldOk) (hrun : Runs i s)
    (h : Effect s i t) : t.HoldOk := by
  cases h with
  | notAccepted => exact hk
  | openHeld bus addr mode hc hm => exact .inr (.inl ⟨bus, addr, mode, hc, hm, rfl, rfl⟩)
  | softResetHeld _ h _ ho hh => exact .inr (.inr (.inl ⟨h, ho, hh, rfl, rfl⟩))
  | closeHeld h ho hh => exact .inr (.inr (.inr (.inl ⟨h, ho, hh, rfl, rfl⟩)))
  | triggerHeld _ cmd h _ he _ hm hp hh =>
    have hmode : s.mode = cmd := hrun.mode_eq hm he
    exact .inr (.inr (.inr (.inr (.inl ⟨h, hp, hh, hk.inFlight_measuring hm, by simp [hmode]⟩))))
  | readStarts ho => exact .inl (hrun.noneWaiting hs hk ho)
  | softReset =>
    dsimp only
    split_ifs <;> exact .inl ⟨rfl, rfl⟩
  | trigger _ _ _ _ _ _ _ _ hm =>
    dsimp only
    split_ifs
    · exact .inl ⟨hk.inFlight_measuring hm, rfl⟩
    · exact .inl ⟨rfl, rfl⟩
  | decode => exact .inl ⟨decodeAndReport_inFlight _, decodeAndReport_outstanding _⟩
  | misuse | openError | opened | modeSet | closedAlready | closed | crc8 => exact .inl ⟨rfl, rfl⟩

theorem phaseSettle_noneWaiting {s : State} (h : s.NoneWaiting) : (phaseSettle s).NoneWaiting := by
  unfold phaseSettle
  dsimp only
  split_ifs
  · exact h
  · split <;> exact h

theorem StepEffect.holdOk {s t : State} (hs : s.Inv) (hk : s.HoldOk) (h : StepEffect s t) :
    t.HoldOk := by
  cases h with
  | resumed _ _ hf heffect => exact heffect.holdOk hs hk (.of_inFlight hk hf)
  | requested _ rest _ hf hm _ heffect =>
    exact heffect.holdOk (s := { s with hostIn := rest }) hs.congr hk (.of_request hf hm)
  | commanded _ _ hf _ _ hd heffect => exact heffect.holdOk hs hk (.of_command hf hd)
  | nothing => exact hk
  | settle hf _ hp =>
    exact .inl (phaseSettle_noneWaiting (hk.noneWaiting hf (by simp [hp]) (by simp [hp])))
  | readHeld h hf _ hp hh => exact .inr (.inr (.inr (.inr (.inr ⟨h, hp, hh, hf, rfl⟩))))
  | readDone _ _ _ _ hf => exact .inl ⟨hf, rfl⟩
  | reserved | readFailed => exact .inl ⟨rfl, rfl⟩
  | decoded => exact .inl ⟨decodeAndReport_inFlight s, decodeAndReport_outstanding s⟩

/-- Settles O55: each instruction and each phase leaves nothing waiting, or its own call. -/
theorem stepKeepsHoldDiscipline : Obligations.StepKeepsHoldDiscipline :=
  fun _ _ hs hk h => (step_effect h).holdOk hs hk

/-! ### The transport order -/

/-- The trace leaves no wait without its read: any call but a wait or a read may follow. -/
def RestingTrace (calls : List XportCall) : Prop :=
  traceOrder calls = some .free ∨ traceOrder calls = some .triggered

/-! What the order asks of the trace, phase by phase: -/

theorem orderOk_iff_of_idle {s : State} (hp : s.phase = .idle) :
    s.OrderOk ↔ RestingTrace s.trace := by
  simp only [State.OrderOk, hp, RestingTrace]

theorem State.OrderOk.of_idle {s : State} (hp : s.phase = .idle) (h : RestingTrace s.trace) :
    s.OrderOk :=
  (orderOk_iff_of_idle hp).mpr h

theorem orderOk_iff_of_decode {s : State} (hp : s.phase = .decode) :
    s.OrderOk ↔ RestingTrace s.trace := by
  simp only [State.OrderOk, hp, RestingTrace]

theorem orderOk_iff_of_settle {s : State} (hp : s.phase = .settle) :
    s.OrderOk ↔ traceOrder s.trace = some .triggered := by
  simp only [State.OrderOk, hp]

theorem orderOk_iff_of_write {s : State} (hp : s.phase = .write) (hout : s.outstanding = none) :
    s.OrderOk ↔ RestingTrace s.trace := by
  simp only [State.OrderOk, hp, hout, RestingTrace]

theorem orderOk_iff_of_write_held {s : State} {c : XportCall} (hp : s.phase = .write)
    (hout : s.outstanding = some c) : s.OrderOk ↔ traceOrder s.trace = some .triggered := by
  simp only [State.OrderOk, hp, hout]

theorem orderOk_iff_of_read {s : State} (hp : s.phase = .read) (hout : s.outstanding = none) :
    s.OrderOk ↔ traceOrder s.trace = some .waited := by
  simp only [State.OrderOk, hp, hout]

theorem orderOk_iff_of_read_held {s : State} {c : XportCall} (hp : s.phase = .read)
    (hout : s.outstanding = some c) : s.OrderOk ↔ RestingTrace s.trace := by
  simp only [State.OrderOk, hp, hout, RestingTrace]

/-- A call after which no trigger is waiting, wherever a resting trace stands: `open`, `close` and
the soft reset. -/
def XportCall.Frees (c : XportCall) : Prop :=
  Order.free.next c = some .free ∧ Order.triggered.next c = some .free

theorem RestingTrace.issue {c : XportCall} {s : State} (h : RestingTrace s.trace)
    (hc : c.Frees := by exact ⟨rfl, rfl⟩) : RestingTrace (issue c s).trace := by
  rw [issue_trace]
  split_ifs
  · exact h
  · left
    rw [traceOrder_append]
    rcases h with h | h <;> rw [h]
    · exact hc.1
    · exact hc.2

/-- A command of the nine is a trigger, unless a wait is without its read. -/
theorem RestingTrace.trigger {calls : List XportCall} {h : Handle} {cmd : Byte}
    (hrest : RestingTrace calls) (hcmd : isMeasurementMode cmd = true) :
    traceOrder (calls ++ [.writeByte h cmd]) = some .triggered := by
  rw [traceOrder_append]
  rcases hrest with ho | ho <;> rw [ho] <;> exact if_pos hcmd

/-- Phase `WRITE` has issued its trigger once, whether or not it was outstanding. -/
theorem traceOrder_issue_trigger {s : State} {h : Handle} {cmd : Byte} (hk : s.HoldOk)
    (ho : s.OrderOk) (hm : s.state = .measuring) (hp : s.phase = .write) (hh : s.handle = some h)
    (hmode : s.mode = cmd) (hcmd : isMeasurementMode cmd = true) :
    traceOrder (issue (.writeByte h cmd) s).trace = some .triggered := by
  rcases hk.outstanding_cases (hk.inFlight_measuring hm) with hout | ⟨-, h', hh', hout⟩ | ⟨hr, -⟩
  · rw [issue_trace, if_neg (by simp [hout])]
    exact ((orderOk_iff_of_write hp hout).mp ho).trigger hcmd
  · have hsame : h' = h := Option.some.inj (hh'.symm.trans hh)
    rw [issue_trace, if_pos (by rw [hout, hsame, hmode])]
    exact (orderOk_iff_of_write_held hp hout).mp ho
  · rw [hp] at hr
    cases hr

/-- Phase `READ` reads six bytes once, after the wait. -/
theorem restingTrace_issue_read {s : State} {h : Handle} (hk : s.HoldOk) (ho : s.OrderOk)
    (hf : s.inFlight = none) (hp : s.phase = .read) (hh : s.handle = some h) :
    RestingTrace (issue (.readBytes h Config.params.frameLen) s).trace := by
  rcases hk.outstanding_cases hf with hout | ⟨hw, -⟩ | ⟨-, h', hh', hout⟩
  · rw [issue_trace, if_neg (by simp [hout]), RestingTrace, traceOrder_append,
      (orderOk_iff_of_read hp hout).mp ho]
    exact .inl rfl
  · rw [hp] at hw
    cases hw
  · have hsame : h' = h := Option.some.inj (hh'.symm.trans hh)
    rw [issue_trace, if_pos (by rw [hout, hsame]; rfl)]
    exact (orderOk_iff_of_read_held hp hout).mp ho

/-- Between operations an instruction issues at most a call that frees the order; in phase `WRITE`
it issues the trigger. -/
theorem Effect.orderOk {i : Instr} {s t : State} (hs : s.Inv) (hk : s.HoldOk) (ho : s.OrderOk)
    (hrun : Runs i s) (h : Effect s i t) : t.OrderOk := by
  have hrest (hm : s.state ≠ .measuring) : RestingTrace s.trace :=
    (orderOk_iff_of_idle (hs.idle hm)).mp ho
  have hclosed (hst : s.state = .closed) : s.state ≠ .measuring := by simp [hst]
  have hopened (hst : s.state = .opened) : s.state ≠ .measuring := by simp [hst]
  cases h with
  | notAccepted => exact ho
  | misuse _ hm => exact .of_idle rfl (hrest hm)
  | openHeld _ _ _ hc | opened _ _ _ _ _ hc =>
    exact .of_idle (hs.idle (hclosed hc)) (hrest (hclosed hc)).issue
  | openError _ _ _ _ hc => exact .of_idle rfl (hrest (hclosed hc)).issue
  | softResetHeld _ _ _ hst | closeHeld _ hst | closed _ _ hst =>
    exact .of_idle (hs.idle (hopened hst)) (hrest (hopened hst)).issue
  | softReset _ h _ _ _ hst =>
    have hissued := (hrest (hopened hst)).issue (c := .writeByte h Config.params.softReset)
    dsimp only
    split_ifs
    · exact .of_idle (hs.idle (hopened hst)) hissued
    · exact .of_idle rfl hissued
  | readStarts hst =>
    exact Iff.mpr (orderOk_iff_of_write rfl (hrun.noneWaiting hs hk hst).2) (hrest (hopened hst))
  | modeSet _ hst =>
    exact .of_idle (hs.idle (hopened hst)) (hrest (hopened hst))
  | closedAlready hc => exact .of_idle (hs.idle (hclosed hc)) (hrest (hclosed hc))
  | crc8 _ hm =>
    rw [crcFold_eq]
    exact .of_idle (hs.idle hm) (hrest hm)
  | decode _ _ _ _ _ _ hm =>
    rw [orderOk_iff_of_idle (decodeAndReport_phase _), decodeAndReport_trace]
    exact hrest hm
  | triggerHeld _ _ _ _ he hcmd hm hp hh =>
    exact Iff.mpr (orderOk_iff_of_write_held hp rfl)
      (traceOrder_issue_trigger hk ho hm hp hh (hrun.mode_eq hm he) hcmd)
  | trigger _ _ _ _ _ _ he hcmd hm hp hh =>
    have hissued := traceOrder_issue_trigger hk ho hm hp hh (hrun.mode_eq hm he) hcmd
    dsimp only
    split_ifs
    · exact Iff.mpr (orderOk_iff_of_settle rfl) hissued
    · exact .of_idle rfl (.inr hissued)

/-- Phase `SETTLE` ends with a wait of at least 10 ms, or the trigger is still the last call
(R186). -/
theorem phaseSettle_orderOk {s : State} (hs : s.Inv) (ho : s.OrderOk) (hp : s.phase = .settle)
    (hout : s.outstanding = none) : (phaseSettle s).OrderOk := by
  have htrig : traceOrder s.trace = some .triggered := (orderOk_iff_of_settle hp).mp ho
  obtain ⟨e, he⟩ := Option.isSome_iff_exists.mp (hs.timer_iff_settle.mpr hp)
  rcases phaseSettle_cases he with ⟨hle, h⟩ | ⟨-, d, rest, -, h⟩ | ⟨-, -, h⟩ <;> rw [h]
  · refine Iff.mpr (orderOk_iff_of_read rfl hout) ?_
    rw [traceOrder_append, htrig]
    exact if_pos hle
  · exact Iff.mpr (orderOk_iff_of_settle hp) htrig
  · exact ho

theorem StepEffect.orderOk {s t : State} (hs : s.Inv) (hk : s.HoldOk) (ho : s.OrderOk)
    (h : StepEffect s t) : t.OrderOk := by
  cases h with
  | resumed _ _ hf heffect => exact heffect.orderOk hs hk ho (.of_inFlight hk hf)
  | requested _ rest _ hf hm _ heffect =>
    exact heffect.orderOk (s := { s with hostIn := rest }) hs.congr hk ho (.of_request hf hm)
  | commanded _ _ hf _ _ hd heffect => exact heffect.orderOk hs hk ho (.of_command hf hd)
  | reserved _ _ _ hm =>
    exact .of_idle rfl ((orderOk_iff_of_idle (hs.idle hm)).mp ho)
  | nothing => exact ho
  | settle hf _ hp =>
    exact phaseSettle_orderOk hs ho hp (hk.noneWaiting hf (by simp [hp]) (by simp [hp])).2
  | readHeld _ hf _ hp hh =>
    exact Iff.mpr (orderOk_iff_of_read_held hp rfl) (restingTrace_issue_read hk ho hf hp hh)
  | readFailed _ _ _ _ _ hf _ hp hh =>
    exact .of_idle rfl (restingTrace_issue_read hk ho hf hp hh)
  | readDone _ _ _ _ hf _ hp hh =>
    exact Iff.mpr (orderOk_iff_of_decode rfl) (restingTrace_issue_read hk ho hf hp hh)
  | decoded _ _ hp =>
    rw [orderOk_iff_of_idle (decodeAndReport_phase s), decodeAndReport_trace]
    exact (orderOk_iff_of_decode hp).mp ho

/-- Settles O56: each phase of a `READ` moves the order on, and no other operation breaks it. -/
theorem stepKeepsTransportOrder : Obligations.StepKeepsTransportOrder :=
  fun _ _ hs hk ho h => (step_effect h).orderOk hs hk ho

end Sys2Proof.Machine
end

section
/-!
SUPPORT. The encodings: what each opcode of the host port decodes as and what its decoding says of
the bytes, the rows of the command map, the 48-bit frame; then the steps that run no instruction,
and the command bytes that no operation issues.
-/

namespace Sys2Proof.Machine

/-! ### Host requests -/

/-- The count byte of `CRC8` gives back its bytes, up to the 255 it can count (R97). -/
theorem decodeCrc8_counted {data : List Byte} (rest : List Byte) (h : data.length ≤ 255) :
    decodeCrc8 (BitVec.ofNat 8 data.length :: (data ++ rest)) = .instr (.hostCrc8 data) rest := by
  have hcount : (BitVec.ofNat 8 data.length).toNat = data.length := by
    rw [BitVec.toNat_ofNat, Nat.mod_eq_of_lt (by omega)]
  simp [decodeCrc8, hcount]

/-- Settles O1: a request's opcode selects the decoder of its own format, and only the byte string
of `CRC8` has to be counted. -/
theorem hostRequestRoundTrip : Obligations.HostRequestRoundTrip := by
  intro i rest hhost hwf
  cases i with
  | hostOpen | hostSreset | hostRead | hostSetmode | hostClose | hostDecode => rfl
  | hostCrc8 data => exact decodeCrc8_counted rest (of_decide_eq_true hwf)
  | _ => cases hhost

/-- `bytes` are the encoding of the well-formed host request `i`, and `rest` after it. -/
def IsRequest (bytes : List Byte) (i : Instr) (rest : List Byte) : Prop :=
  i.isHost = true ∧ i.wellFormed = true ∧ bytes = encode i ++ rest

section
variable {bytes rest : List Byte} {i : Instr}

theorem decodeOpen_isRequest (h : decodeOpen bytes = .instr i rest) :
    IsRequest (opOpen :: bytes) i rest := by
  unfold decodeOpen at h
  split at h <;> cases h
  exact ⟨rfl, rfl, rfl⟩

theorem decodeSetmode_isRequest (h : decodeSetmode bytes = .instr i rest) :
    IsRequest (opSetmode :: bytes) i rest := by
  unfold decodeSetmode at h
  split at h <;> cases h
  exact ⟨rfl, rfl, rfl⟩

theorem decodeDecode_isRequest (h : decodeDecode bytes = .instr i rest) :
    IsRequest (opDecode :: bytes) i rest := by
  unfold decodeDecode at h
  split at h <;> cases h
  exact ⟨rfl, rfl, rfl⟩

/-- A count byte never asks for more than 255 bytes, and the bytes taken are as many as it says. -/
theorem decodeCrc8_isRequest (h : decodeCrc8 bytes = .instr i rest) :
    IsRequest (opCrc8 :: bytes) i rest := by
  unfold decodeCrc8 at h
  split at h
  case h_2 => cases h
  case h_1 n tail =>
    split_ifs at h with hshort
    cases h
    have hlen : (tail.take n.toNat).length = n.toNat :=
      List.length_take_of_le (Nat.le_of_not_lt hshort)
    refine ⟨rfl, ?_, ?_⟩
    · have hn : n.toNat < 256 := n.isLt
      simp only [Instr.wellFormed, hlen, decide_eq_true_eq]
      omega
    · simp [encode, hlen]

end

/-- Settles O2: each opcode's decoder takes from the front of the bytes what the encoder writes. -/
theorem decodedRequestReencodes : Obligations.DecodedRequestReencodes := by
  intro bytes rest i h
  cases bytes with
  | nil => cases h
  | cons op tail =>
    change IsRequest (op :: tail) i rest
    simp only [decodeHost] at h
    split_ifs at h with hopen hsreset hread hsetmode hclose hcrc hdecode
    · exact hopen ▸ decodeOpen_isRequest h
    · cases h; exact ⟨rfl, rfl, hsreset ▸ rfl⟩
    · cases h; exact ⟨rfl, rfl, hread ▸ rfl⟩
    · exact hsetmode ▸ decodeSetmode_isRequest h
    · cases h; exact ⟨rfl, rfl, hclose ▸ rfl⟩
    · exact hcrc ▸ decodeCrc8_isRequest h
    · exact hdecode ▸ decodeDecode_isRequest h

/-- No opcode of R96 is `0x00`, or `0x08` and above: those are reserved (R98 a). -/
theorem decodeHost_reserved {op : Byte} (rest : List Byte) (h : op = 0x00 ∨ 0x08 ≤ op) :
    decodeHost (op :: rest) = .reserved op rest := by
  have hne : ∀ k ∈ [opOpen, opSreset, opRead, opSetmode, opClose, opCrc8, opDecode], op ≠ k := by
    rintro k hk rfl
    revert op
    decide
  simp only [List.forall_mem_cons] at hne
  simp [decodeHost, hne]

/-! ### Device commands -/

theorem cmdRows_of_decodeCmd8 {b : Byte} {i : Instr} (h : decodeCmd8 b = some i) :
    (b, i) ∈ cmdRows := by
  obtain ⟨row, hfind, rfl⟩ := Option.map_eq_some_iff.mp h
  have hb : row.1 = b := eq_of_beq (List.find?_some hfind :)
  exact hb ▸ List.mem_of_find?_eq_some hfind

/-- The bytes that decode are those of the command map (R93, R241). -/
theorem decodeCmd8_isSome_iff (b : Byte) :
    (decodeCmd8 b).isSome = true ↔ b ∈ cmdRows.map Prod.fst := by
  simp [decodeCmd8]

/-- Every row of the command map is a device command, and it triggers a measurement exactly when its
byte may stand in `MODE` (R25, R92). -/
theorem cmdRows_isMeasurement :
    ∀ row ∈ cmdRows, row.2.isHost = false ∧ row.2.isMeasurement = isMeasurementMode row.1 := by
  decide

/-- Settles O3: each command is a row of the map, and the map is the listing of R92. -/
theorem deviceCommandRoundTrip : Obligations.DeviceCommandRoundTrip := by
  refine ⟨fun i hdevice => ?_, fun b i h => ?_, fun b => ?_⟩
  · cases i with
    | hostOpen | hostSreset | hostRead | hostSetmode | hostClose | hostCrc8 | hostDecode =>
      cases hdevice
    | _ => exact ⟨_, rfl, by decide⟩
  · obtain ⟨hdevice, hmeasurement⟩ := cmdRows_isMeasurement _ (cmdRows_of_decodeCmd8 h)
    exact ⟨hdevice, encode_of_decodeCmd8 h, hmeasurement⟩
  · exact decodeCmd8_isSome_iff b

/-! ### The response frame -/

/-- Appending a byte on the right makes it the least significant one (R61, R94). -/
theorem toNat_append_byte {n : Nat} (x : BitVec n) (b : Byte) :
    (x ++ b).toNat = x.toNat * 256 + b.toNat := by
  rw [BitVec.toNat_append, ← Nat.shiftLeft_add_eq_or_of_lt b.isLt, Nat.shiftLeft_eq]

theorem rsp48_toNat (f : RawFrame) : (rsp48 f).toNat =
    ((((f.tHi.toNat * 256 + f.tLo.toNat) * 256 + f.tCrc.toNat) * 256 + f.hHi.toNat) * 256 +
      f.hLo.toNat) * 256 + f.hCrc.toNat := by
  simp only [rsp48, toNat_append_byte]

/-- The six bytes are the digits of the 48-bit number in base 256. -/
theorem rsp48_ofRsp48 (v : BitVec 48) : rsp48 (ofRsp48 v) = v := by
  apply BitVec.eq_of_toNat_eq
  have hv : v.toNat < 2 ^ 48 := v.isLt
  simp only [rsp48_toNat, ofRsp48, BitVec.extractLsb'_toNat, Nat.shiftRight_eq_div_pow]
  omega

/-- Different frames are different numbers: digits in base 256 are unique. -/
theorem rsp48_injective : Function.Injective rsp48 := by
  intro f g h
  have hnat := congrArg BitVec.toNat h
  rw [rsp48_toNat, rsp48_toNat] at hnat
  obtain ⟨f0, f1, f2, f3, f4, f5⟩ := f
  obtain ⟨g0, g1, g2, g3, g4, g5⟩ := g
  simp only [RawFrame.mk.injEq, ← BitVec.toNat_inj]
  dsimp only at hnat
  omega

/-- Settles O4: the layout, and the two inverses; the first follows from the second, since no two
frames share a number. -/
theorem responseFrameLayout : Obligations.ResponseFrameLayout :=
  ⟨rsp48_toNat, fun f => rsp48_injective (rsp48_ofRsp48 (rsp48 f)), rsp48_ofRsp48⟩

/-! ### Fixed words and the assembler -/

/-- Settles O5: each word is decoded by evaluation. -/
theorem wordsDecodeAsWritten : Obligations.WordsDecodeAsWritten := by
  unfold Obligations.WordsDecodeAsWritten
  decide

/-- Settles O6: the three forms of `OPEN` have an equation each in `AsmLine.toInstr`. -/
theorem assemblerFillsDefaults : Obligations.AssemblerFillsDefaults :=
  fun _ _ _ => ⟨rfl, rfl, rfl⟩

/-! ### Steps that run no instruction, and commands that no operation issues -/

theorem fetch_host {s : State} (hf : s.inFlight = none) (hm : s.state ≠ .measuring) :
    fetch s = fetchHost s := by
  cases hs : s.state with
  | measuring => exact absurd hs hm
  | closed | opened => simp [fetch, hf, hs]

/-- An error raised between operations writes `STATUS`, what R32 leaves open, and nothing else. -/
theorem raise_eq_ended {s : State} (e : Raised) (hb : s.Between) (hm : s.state ≠ .measuring) :
    raise e s = s.ended e.status (raise e s) := by
  obtain ⟨hphase, htimer⟩ := hb
  have hleave : leaveMeasuring s = s := by
    simp [leaveMeasuring, hm, ← hphase, ← htimer]
  rw [raise, hleave]
  rfl

/-- Settles O10: no operation has that opcode, so the fetch itself raises the error. -/
theorem reservedOpcodeIsProgrammingError : Obligations.ReservedOpcodeIsProgrammingError := by
  rintro s op rest hb ⟨hf, -⟩ hm hin hop
  have hfetch : fetch s = .done (.next (raise .programming { s with hostIn := rest })) := by
    rw [fetch_host hf hm, fetchHost, hin, decodeHost_reserved rest hop]
  refine ⟨raise .programming { s with hostIn := rest }, ?_, raise_eq_ended .programming hb hm⟩
  rw [step, hfetch]

/-- Settles O11: the fetch finds no whole request and leaves the state as it is. -/
theorem unfinishedRequestWaits : Obligations.UnfinishedRequestWaits := by
  rintro s ⟨hf, -⟩ hm hd
  rw [step, fetch_host hf hm, fetchHost, hd]

theorem execCmdSoftReset_closed {s : State} (hs : s.state = .closed) :
    execCmdSoftReset s = .next (raise .programming s) := by
  simp [execCmdSoftReset, hs]

/-- Settles O36: the soft reset command needs an open session, a measurement command a `READ` in
progress. -/
theorem commandOutsideItsOperation : Obligations.CommandOutsideItsOperation := by
  rintro s i hb (⟨rfl, hs⟩ | ⟨hi, hm⟩)
  · exact ⟨_, execCmdSoftReset_closed hs, raise_eq_ended .programming hb (by simp [hs])⟩
  · obtain ⟨cmd, he, -⟩ := encode_measurement hi
    exact ⟨_, (exec_measurement hi he s).trans (writeMeasurement_elsewhere hm),
      raise_eq_ended .programming hb hm⟩

end Sys2Proof.Machine
end

section
/-!
SUPPORT. The CRC engine: `crc8_byte` is linear over exclusive-or for every polynomial and a
permutation for an odd one. So the fold is linear, a sequence checks to 0 exactly when it ends in its
own checksum, and a corruption of a word passes exactly when its own checksum from 0 is 0.
-/

namespace Sys2Proof.Machine

/-! ### One byte -/

theorem crc8Byte_xor (a b p : Byte) :
    crc8Byte (a ^^^ b) p = crc8Byte a p ^^^ crc8Byte b p :=
  Function.Semiconj₂.iterate (crcShift_xor p) 8 a b

theorem crc8Byte_zero (p : Byte) : crc8Byte 0 p = 0 := by
  have h := crc8Byte_xor 0 0 p
  rwa [BitVec.xor_self, BitVec.xor_self] at h

/-- Seven iterations only shift; the eighth shifts the bit out and leaves the polynomial. -/
theorem crc8Byte_one (p : Byte) : crc8Byte 1 p = p := by
  have hseven : (crcShift p)^[7] 1 = 0x80 := by simp [crcShift]
  rw [crc8Byte, Function.iterate_succ_apply', hseven]
  exact BitVec.zero_xor

/-- Settles O16: linearity passes from one iteration to eight. -/
theorem crcByteIsLinear : Obligations.CrcByteIsLinear :=
  fun p => ⟨fun a b => crc8Byte_xor a b p, crc8Byte_zero p, crc8Byte_one p, look_buildTable p⟩

/-- With an odd polynomial the low bit of the result tells whether a bit was shifted out, so no bit
is lost and only 0 goes to 0. -/
theorem crcShift_eq_zero {p v : Byte} (hp : p[0] = true) (h : crcShift p v = 0) : v = 0 := by
  unfold crcShift at h
  split_ifs at h with hhigh
  · have hlow := congrArg (·[0]) h
    simp [hp] at hlow
  · have hmsb : v.msb = false := Bool.eq_false_iff.mpr hhigh
    rw [BitVec.msb_eq_false_iff_two_mul_lt] at hmsb
    bv_omega

theorem crcShift_injective {p : Byte} (hp : p[0] = true) : Function.Injective (crcShift p) := by
  intro a b h
  have hzero : crcShift p (a ^^^ b) = 0 := by
    rw [crcShift_xor, h]
    exact BitVec.xor_self
  exact BitVec.xor_eq_zero_iff.mp (crcShift_eq_zero hp hzero)

theorem crc8Byte_bijective {p : Byte} (hp : p[0] = true) : Function.Bijective (crc8Byte · p) :=
  Function.Injective.bijective_of_finite ((crcShift_injective hp).iterate 8)

theorem crc8Byte_eq_zero_iff {p b : Byte} (hp : p[0] = true) : crc8Byte b p = 0 ↔ b = 0 :=
  ⟨fun h => (crc8Byte_bijective hp).injective (h.trans (crc8Byte_zero p).symm),
    fun h => h ▸ crc8Byte_zero p⟩

/-- Settles O15: the table holds `crc8_byte`, and `0x31` is odd. -/
theorem tableIsLinearPermutation : Obligations.TableIsLinearPermutation := by
  simp only [Obligations.TableIsLinearPermutation, look_buildTable]
  exact ⟨fun a b => crc8Byte_xor a b 0x31, (crc8Byte_bijective rfl).existsUnique⟩

/-- Settles O14: the 256 entries are computed. -/
theorem tableIsTheListing : Obligations.TableIsTheListing := by
  unfold Obligations.TableIsTheListing
  decide +kernel

/-! ### The fold -/

/-- Linear in the bytes and the initial value together: each byte meets the accumulator before the
table is looked up (R132). -/
theorem checksum_zipWith_xor (p : Byte) {d e : List Byte} (h : d.length = e.length) (i j : Byte) :
    checksum (buildTable p) (List.zipWith (· ^^^ ·) d e) (i ^^^ j) =
      checksum (buildTable p) d i ^^^ checksum (buildTable p) e j := by
  induction d generalizing e i j with
  | nil =>
    cases e with
    | nil => rfl
    | cons => cases h
  | cons x d ih =>
    cases e with
    | nil => cases h
    | cons y e =>
      have hswap : i ^^^ j ^^^ (x ^^^ y) = (i ^^^ x) ^^^ (j ^^^ y) := by ac_rfl
      simp only [List.zipWith_cons_cons, checksum_cons, look_buildTable]
      rw [hswap, crc8Byte_xor, ih (Nat.succ.inj h)]

/-- Settles O19: the initial value is the exclusive-or of itself and 0. -/
theorem checksumIsLinear : Obligations.ChecksumIsLinear := by
  intro d e i h
  simpa using checksum_zipWith_xor 0x31 h i 0

theorem checksum_concat (t : CrcTable) (d : List Byte) (b i : Byte) :
    checksum t (d ++ [b]) i = CrcTable.look t (checksum t d i ^^^ b) :=
  checksum_append t d [b] i

/-- Only equal bytes cancel, and only 0 is looked up as 0 (R124, R127). -/
theorem checksum_concat_eq_zero_iff {p : Byte} (hp : p[0] = true) (d : List Byte) (b i : Byte) :
    checksum (buildTable p) (d ++ [b]) i = 0 ↔ checksum (buildTable p) d i = b := by
  rw [checksum_concat, look_buildTable, crc8Byte_eq_zero_iff hp]
  exact BitVec.xor_eq_zero_iff

/-- Settles O17: the appended byte is the checksum itself. -/
theorem checksumFold : Obligations.ChecksumFold :=
  fun d b i => ⟨checksum_nil _ i, checksum_concat _ d b i,
    (checksum_concat_eq_zero_iff rfl d _ i).mpr rfl⟩

/-- Settles O18: one byte more than the empty sequence. -/
theorem singleByteChecksum : Obligations.SingleByteChecksum :=
  fun b => checksum_concat _ [] b 0xFF

/-! ### The validator -/

/-- Settles O20: three bytes check to 0 exactly when the third is the checksum of the first two. -/
theorem validatorVerdict : Obligations.ValidatorVerdict :=
  fun hi lo emb => ⟨validate_eq_pass,
    validate_eq_pass.trans (checksum_concat_eq_zero_iff rfl [hi, lo] emb 0xFF).symm,
    fun hne => if_neg hne⟩

/-- A corruption changes the checksum by its own checksum from 0 (R130). -/
theorem validate_corrupted_iff (hi lo eHi eLo : Byte) :
    validate (buildTable 0x31) (hi ^^^ eHi) (lo ^^^ eLo)
        (checksum (buildTable 0x31) [hi, lo] 0xFF) = .pass ↔
      checksum (buildTable 0x31) [eHi, eLo] 0x00 = 0x00 := by
  have hlinear : checksum (buildTable 0x31) [hi ^^^ eHi, lo ^^^ eLo] 0xFF =
      checksum (buildTable 0x31) [hi, lo] 0xFF ^^^ checksum (buildTable 0x31) [eHi, eLo] 0x00 :=
    checksumIsLinear [hi, lo] [eHi, eLo] 0xFF rfl
  rw [validate_eq_pass]
  exact (Eq.congr hlinear BitVec.xor_zero.symm).trans (BitVec.xor_right_inj _)

theorem checksum_pair_eq_zero_iff (x y : Byte) :
    checksum (buildTable 0x31) [x, y] 0x00 = 0x00 ↔ y = crc8Byte x 0x31 := by
  rw [eq_comm (a := y)]
  simpa using checksum_concat_eq_zero_iff (p := 0x31) rfl [x] y 0

/-- Settles O21: the low byte that goes undetected is the table entry of the high byte; for 1 it is
the polynomial. -/
theorem undetectedCorruptions : Obligations.UndetectedCorruptions := by
  refine ⟨validate_corrupted_iff, fun eHi => ?_, ?_⟩
  · simp only [checksum_pair_eq_zero_iff]
    exact existsUnique_eq
  · exact (checksum_pair_eq_zero_iff _ _).mpr (crc8Byte_one _).symm

theorem Verdict.exists_mismatch_of_ne_pass {v : Verdict} (h : v ≠ .pass) :
    ∃ x y, v = .mismatch x y := by
  cases v with
  | pass => exact absurd rfl h
  | mismatch x y => exact ⟨x, y, rfl⟩

/-- No pattern of one or two bits has the table entry of its high byte as its low byte: the 136
patterns are computed (R130). -/
theorem lowByte_ne_crc8Byte_of_one_or_two_bits (a b : Fin 16) :
    (BitVec.twoPow 16 a ||| BitVec.twoPow 16 b).extractLsb' 0 8 ≠
      crc8Byte ((BitVec.twoPow 16 a ||| BitVec.twoPow 16 b).extractLsb' 8 8) 0x31 := by
  revert a b
  decide

/-- Settles O22: a flip that passed would be one of the undetected corruptions. -/
theorem oneAndTwoBitFlipsDetected : Obligations.OneAndTwoBitFlipsDetected := by
  rintro hi lo a b e rfl
  refine Verdict.exists_mismatch_of_ne_pass fun hpass => ?_
  exact lowByte_ne_crc8Byte_of_one_or_two_bits a b
    ((checksum_pair_eq_zero_iff _ _).mp ((validate_corrupted_iff hi lo _ _).mp hpass))

/-! ### The host operation -/

/-- What ends an operation writes `STATUS`, what R32 leaves open, and nothing else. -/
theorem finish_eq_ended (st : Status) (d : Detail) (s : State) :
    finish st d s = s.ended st (finish st d s) := rfl

theorem exec_hostCrc8 {s : State} (data : List Byte) (hm : s.state ≠ .measuring) :
    exec (.hostCrc8 data) s = .next (finishOk (crcFold data s)) := if_neg hm

/-- Settles O23: the fold through `CRC_ACC` is the pure checksum, and writes that register alone. -/
theorem crc8Completes : Obligations.Crc8Completes := by
  intro s data hm
  refine ⟨_, exec_hostCrc8 data hm, ?_⟩
  rw [crcFold_eq]
  exact finish_eq_ended .ok {} _

end Sys2Proof.Machine
end

section
/-!
SUPPORT. The decoder's results in `FRAME`'s terms, and the state a decode ends in, register by
register.
-/

namespace Sys2Proof.Machine

/-! ### The pure decoder, case by case -/

theorem validate_eq_mismatch {t : CrcTable} {hi lo emb : Byte}
    (h : checksum t [hi, lo] Config.params.init ≠ emb) :
    validate t hi lo emb = .mismatch (checksum t [hi, lo] Config.params.init) emb := if_neg h

section
variable {t : CrcTable} {f : RawFrame}

theorem decodeFrame_temperatureMismatch
    (hT : checksum t [f.tHi, f.tLo] Config.params.init ≠ f.tCrc) :
    decodeFrame t f = .checksumMismatch .temperature
      (checksum t [f.tHi, f.tLo] Config.params.init) f.tCrc := by
  rw [decodeFrame, validate_eq_mismatch hT]

theorem decodeFrame_humidityMismatch
    (hT : checksum t [f.tHi, f.tLo] Config.params.init = f.tCrc)
    (hH : checksum t [f.hHi, f.hLo] Config.params.init ≠ f.hCrc) :
    decodeFrame t f = .checksumMismatch .humidity
      (checksum t [f.hHi, f.hLo] Config.params.init) f.hCrc := by
  rw [decodeFrame, validate_eq_pass.mpr hT, validate_eq_mismatch hH]

theorem decodeFrame_pass
    (hT : checksum t [f.tHi, f.tLo] Config.params.init = f.tCrc)
    (hH : checksum t [f.hHi, f.hLo] Config.params.init = f.hCrc) :
    decodeFrame t f =
      .measurement (convT (word16 f.tHi f.tLo)) (convH (word16 f.hHi f.hLo)) := by
  rw [decodeFrame, validate_eq_pass.mpr hT, validate_eq_pass.mpr hH]

end

/-! ### The state a decode ends in -/

section
variable {s : State} {x y : F64} {field : ErrField} {e a : Byte}

/-- A decode that passed both checks writes the two results; the rest is what R27 to R29 and R32
leave open (R160). -/
theorem decodeAndReport_measurement_eq_ended
    (h : decodeFrame s.table s.frame = .measurement x y) :
    decodeAndReport s =
      ((setMeasurement x y (leaveMeasuring s)).scratchOf (decodeAndReport s)).ended .ok
        (decodeAndReport s) := by
  obtain ⟨t, -, hdecode, ht⟩ := decodeAndReport_measurement h
  rw [hdecode, ht]
  rfl

/-- A decode that failed a check writes no result (R160). -/
theorem decodeAndReport_mismatch_eq_ended
    (h : decodeFrame s.table s.frame = .checksumMismatch field e a) :
    decodeAndReport s =
      ((leaveMeasuring s).scratchOf (decodeAndReport s)).ended .checksumMismatch
        (decodeAndReport s) := by
  obtain ⟨c, hdecode⟩ := decodeAndReport_mismatch h
  rw [hdecode]
  rfl

/-- The detail registers after a mismatch (R32). -/
theorem decodeAndReport_mismatch_detail
    (h : decodeFrame s.table s.frame = .checksumMismatch field e a) :
    (decodeAndReport s).errField = field ∧ (decodeAndReport s).errExpected = e ∧
      (decodeAndReport s).errActual = a := by
  obtain ⟨c, hdecode⟩ := decodeAndReport_mismatch h
  rw [hdecode]
  exact ⟨rfl, rfl, rfl⟩

end

/-! ### `DECODE` -/

/-- Between operations there is no `READ` to leave (R189). -/
theorem leaveMeasuring_eq_self {s : State} (hb : s.Between) (hm : s.state ≠ .measuring) :
    leaveMeasuring s = s := by
  obtain ⟨hphase, htimer⟩ := hb
  simp [leaveMeasuring, hm, ← hphase, ← htimer]

/-- The state that `DECODE` decodes: `VALID` cleared and the operand in `FRAME` (R161). -/
def decodeInput (f : RawFrame) (s : State) : State := { clearMeasurement s with frame := f }

theorem exec_hostDecode {s : State} (f0 f1 f2 f3 f4 f5 : Byte) (hm : s.state ≠ .measuring) :
    exec (.hostDecode f0 f1 f2 f3 f4 f5) s =
      .next (decodeAndReport (decodeInput ⟨f0, f1, f2, f3, f4, f5⟩ s)) :=
  if_neg hm

section
variable {s : State} {f : RawFrame} {x y : F64} {field : ErrField} {e a : Byte}

theorem decodeInput_measurement (hb : s.Between) (hm : s.state ≠ .measuring)
    (h : decodeFrame s.table f = .measurement x y) :
    decodeAndReport (decodeInput f s) =
      ((setMeasurement x y s).scratchOf (decodeAndReport (decodeInput f s))).ended .ok
        (decodeAndReport (decodeInput f s)) := by
  have hended := decodeAndReport_measurement_eq_ended (s := decodeInput f s) h
  rw [leaveMeasuring_eq_self (s := decodeInput f s) hb hm] at hended
  exact hended

theorem decodeInput_mismatch (hb : s.Between) (hm : s.state ≠ .measuring)
    (h : decodeFrame s.table f = .checksumMismatch field e a) :
    decodeAndReport (decodeInput f s) =
      ((clearMeasurement s).scratchOf (decodeAndReport (decodeInput f s))).ended
        .checksumMismatch (decodeAndReport (decodeInput f s)) := by
  have hended := decodeAndReport_mismatch_eq_ended (s := decodeInput f s) h
  rw [leaveMeasuring_eq_self (s := decodeInput f s) hb hm] at hended
  exact hended

end

/-- Settles O30: `DECODE` fills `FRAME` and runs the decode of R160 on it, which ends as the pure
decoder says. -/
theorem decodeCompletes : Obligations.DecodeCompletes := by
  intro s f0 f1 f2 f3 f4 f5 hm hb
  refine ⟨_, exec_hostDecode f0 f1 f2 f3 f4 f5 hm, fun hT => ?_, fun hT hH => ?_, fun hT hH => ?_⟩
  · have hframe := decodeFrame_temperatureMismatch (f := ⟨f0, f1, f2, f3, f4, f5⟩) hT
    exact ⟨decodeInput_mismatch hb hm hframe, decodeAndReport_mismatch_detail hframe⟩
  · have hframe := decodeFrame_humidityMismatch (f := ⟨f0, f1, f2, f3, f4, f5⟩) hT hH
    exact ⟨decodeInput_mismatch hb hm hframe, decodeAndReport_mismatch_detail hframe⟩
  · exact decodeInput_measurement hb hm
      (decodeFrame_pass (f := ⟨f0, f1, f2, f3, f4, f5⟩) hT hH)

/-- Settles O31: each of the two results of the pure decoder, read off the registers. -/
theorem registerDecodeMeetsPureDecoder : Obligations.RegisterDecodeMeetsPureDecoder := by
  refine fun s => ⟨fun x y h => ?_, fun field e a h => ?_⟩
  · rw [decodeAndReport_measurement_eq_ended h]
    exact ⟨rfl, rfl, rfl, rfl⟩
  · have hdetail := decodeAndReport_mismatch_detail h
    rw [decodeAndReport_mismatch_eq_ended h]
    exact ⟨rfl, rfl, hdetail⟩

/-! ### The words and the conversions at fixed values -/

/-- Settles O24: the low byte is appended on the right. -/
theorem wordIsBigEndian : Obligations.WordIsBigEndian :=
  fun hi lo => toNat_append_byte hi lo

/-- Settles O25: each conversion is computed. -/
theorem conversionCorners : Obligations.ConversionCorners := by
  unfold Obligations.ConversionCorners
  decide +kernel

/-- Settles O26: rounding keeps order, so the values at the ends of the range bound the rest. -/
theorem conversionRange : Obligations.ConversionRange := fun raw =>
  have ⟨hfinT, hloT, hhiT⟩ := convT_range raw
  ⟨hfinT, hloT, hhiT, convH_range raw⟩

end Sys2Proof.Machine
end

section
/-!
SUPPORT. How far one rounding of binary64 moves a value, and when it does not move it at all; hence
the error of the two conversions, and what follows from it (R156, R157, R158).
-/

namespace Sys2Proof.Machine

/-! ### One rounding of a magnitude -/

section
variable {n d e : Nat} {neg : Bool}

theorem roundEven_mul_bounds (hd : 0 < d) :
    2 * (roundEven n d * d) ≤ 2 * n + d ∧ 2 * n ≤ 2 * (roundEven n d * d) + d := by
  have hn : n / d * d + n % d = n := Nat.div_add_mod' n d
  have hr : n % d < d := Nat.mod_lt n hd
  unfold roundEven
  split_ifs
  · omega
  · rw [Nat.add_one_mul (n / d) d]
    omega
  · rcases Nat.mod_two_eq_zero_or_one (n / d) with heven | hodd
    · rw [heven, Nat.add_zero]
      omega
    · rw [hodd, Nat.add_one_mul (n / d) d]
      omega

/-- Rounding to a natural number moves a quotient by a half at most. -/
theorem roundEven_error (hd : 0 < d) : |(roundEven n d : ℚ) - n / d| ≤ 1 / 2 := by
  have hdq : (0 : ℚ) < d := Nat.cast_pos.mpr hd
  obtain ⟨hup, hdown⟩ := roundEven_mul_bounds (n := n) hd
  qify at hup hdown
  rw [abs_le, neg_le_sub_iff_le_add, sub_le_iff_le_add', div_le_iff₀ hdq, ← sub_le_iff_le_add,
    le_div_iff₀ hdq]
  constructor <;> linarith

theorem roundEven_mul_self (m : Nat) (hd : 0 < d) : roundEven (m * d) d = m :=
  (roundEven_le hd le_rfl).antisymm (le_roundEven (Nat.mul_div_cancel m hd).ge)

theorem roundShift_le (hd : 0 < d) (h : n < 2 ^ (53 + e) * d) : roundShift n d ≤ e := by
  rcases Nat.eq_zero_or_pos (n / d) with hzero | hpos
  · rw [roundShift, hzero]
    exact Nat.zero_le e
  · have hlog := (Nat.log2_lt hpos.ne').mpr ((Nat.div_lt_iff_lt_mul hd).mpr h)
    unfold roundShift
    omega

theorem le_roundShift (hd : 0 < d) (h : 2 ^ (52 + e) * d ≤ n) : e ≤ roundShift n d := by
  have hdiv : 2 ^ (52 + e) ≤ n / d := (Nat.le_div_iff_mul_le hd).mpr h
  have hlog := (Nat.le_log2 (Nat.two_pow_pos _ |>.trans_le hdiv).ne').mpr hdiv
  unfold roundShift
  omega

/-- What the bits of a rounded magnitude stand for: the rounded quotient, shifted back. -/
theorem mag_pack_roundMag (hd : 0 < d) (he : e ≤ 2000) (h : n < 2 ^ (53 + e) * d) :
    F64.mag (F64.pack neg (roundMag n d)) =
      roundEven n (d * 2 ^ roundShift n d) * 2 ^ roundShift n d := by
  have hshift := roundShift_le hd h
  have hhigh := roundEven_shifted_le (n := n) hd
  have hlow := le_roundEven_shifted (n := n) (d := d)
  rw [roundMag, min_eq_left (by omega)]
  generalize roundEven n (d * 2 ^ roundShift n d) = r at *
  generalize roundShift n d = s at *
  have hbits : s * 2 ^ 52 + r < 2 ^ 63 := by omega
  rw [F64.mag, expo_pack hbits, frac_pack hbits]
  rcases Nat.lt_or_ge r (2 ^ 52) with hr | hr
  · have hs : s = 0 := by omega
    subst hs
    rw [if_pos (by omega)]
    omega
  rcases hhigh.lt_or_eq with hr' | rfl
  · rw [if_neg (by omega), show (s * 2 ^ 52 + r) / 2 ^ 52 - 1 = s by omega]
    congr 1
    omega
  · rw [if_neg (by omega), show (s * 2 ^ 52 + 2 ^ 53) / 2 ^ 52 - 1 = s + 1 by omega,
      show (s * 2 ^ 52 + 2 ^ 53) % 2 ^ 52 = 0 by omega]
    ring

/-- A quotient that needs no more than 53 bits is kept. -/
theorem mag_pack_roundMag_exact {m : Nat} (hd : 0 < d) (he : e ≤ 2000) (hm : m < 2 ^ 53) :
    F64.mag (F64.pack neg (roundMag (m * 2 ^ e * d) d)) = m * 2 ^ e := by
  have hn : m * 2 ^ e * d < 2 ^ (53 + e) * d := by
    rw [pow_add]
    gcongr
  have hshift := roundShift_le hd hn
  rw [mag_pack_roundMag hd he hn]
  generalize roundShift (m * 2 ^ e * d) d = s at *
  have he' : 2 ^ e = 2 ^ (e - s) * 2 ^ s := by rw [← pow_add, Nat.sub_add_cancel hshift]
  have hsplit : m * 2 ^ e * d = m * 2 ^ (e - s) * (d * 2 ^ s) := by
    rw [he']
    ring
  rw [hsplit, roundEven_mul_self _ (by positivity), he', Nat.mul_assoc]

/-- The same with a power of two at the upper end. -/
theorem mag_pack_roundMag_exact_of_le {m : Nat} (hd : 0 < d) (he : e < 2000) (hm : m ≤ 2 ^ 53) :
    F64.mag (F64.pack neg (roundMag (m * 2 ^ e * d) d)) = m * 2 ^ e := by
  rcases hm.lt_or_eq with hlt | rfl
  · exact mag_pack_roundMag_exact hd he.le hlt
  · rw [show 2 ^ 53 * 2 ^ e = 2 ^ 52 * 2 ^ (e + 1) by ring]
    exact mag_pack_roundMag_exact hd he (by decide)

/-- A magnitude of 53 bits and more is a multiple of its last place. -/
theorem dvd_mag_pack_roundMag {k : Nat} (hd : 0 < d) (he : e ≤ 2000)
    (hlow : 2 ^ (52 + k) * d ≤ n) (h : n < 2 ^ (53 + e) * d) :
    2 ^ k ∣ F64.mag (F64.pack neg (roundMag n d)) := by
  rw [mag_pack_roundMag hd he h]
  exact (pow_dvd_pow 2 (le_roundShift hd hlow)).mul_left _

/-- One rounding moves a magnitude by half of its last place at most. -/
theorem mag_pack_roundMag_error (hd : 0 < d) (he : e < 2000) (h : n ≤ 2 ^ (53 + e) * d) :
    |(F64.mag (F64.pack neg (roundMag n d)) : ℚ) - n / d| ≤ 2 ^ e / 2 := by
  have hdq : (0 : ℚ) < d := Nat.cast_pos.mpr hd
  rcases h.lt_or_eq with hlt | rfl
  · have hshift : (2 : ℚ) ^ roundShift n d ≤ 2 ^ e :=
      pow_le_pow_right₀ (by norm_num) (roundShift_le hd hlt)
    have herror := roundEven_error (n := n) (d := d * 2 ^ roundShift n d) (by positivity)
    rw [mag_pack_roundMag hd he.le hlt]
    generalize roundEven n (d * 2 ^ roundShift n d) = r at *
    generalize roundShift n d = s at *
    have hscale : ((r * 2 ^ s : ℕ) : ℚ) - n / d = (r - n / (d * 2 ^ s : ℕ)) * 2 ^ s := by
      push_cast
      field_simp
    calc |((r * 2 ^ s : ℕ) : ℚ) - n / d| = |(r : ℚ) - n / (d * 2 ^ s : ℕ)| * 2 ^ s := by
          rw [hscale, abs_mul, abs_of_pos (by positivity : (0 : ℚ) < 2 ^ s)]
      _ ≤ 1 / 2 * 2 ^ s := by gcongr
      _ ≤ 2 ^ e / 2 := by linarith
  · have hexact := mag_pack_roundMag_exact_of_le (neg := neg) hd he le_rfl
    rw [← pow_add] at hexact
    rw [hexact, Nat.cast_mul, mul_div_cancel_right₀ _ hdq.ne', sub_self, abs_zero]
    positivity

end

/-! ### One operation, in the rationals its operands stand for

Below `2 ^ 900` no operation overflows. -/

theorem two_pow_eq_mul_one {k m : Nat} (h : m = 1074 + k) : 2 ^ m = 2 ^ k * F64.one := by
  rw [h, F64.one_eq, pow_add, Nat.mul_comm]

theorem one_cast_pos : (0 : ℚ) < F64.one := Nat.cast_pos.mpr F64.one_pos

theorem toRat_pack_roundMag (neg : Bool) (n d : Nat) :
    F64.toRat (F64.pack neg (roundMag n d)) =
      if neg then -((F64.mag (F64.pack neg (roundMag n d)) : ℚ) / F64.one)
      else (F64.mag (F64.pack neg (roundMag n d)) : ℚ) / F64.one := by
  have hbits : roundMag n d < 2 ^ 63 := (min_le_right _ _).trans_lt (by decide)
  rw [toRat_eq_div, F64.scaled, sign_pack hbits]
  cases neg with
  | true => simp [neg_div]
  | false => simp

section
variable {n d k : Nat} {neg : Bool} {x : ℚ}

/-- Half of the last place of a value up to `2 ^ k` is at most `2 ^ (k - 54)`. -/
theorem roundMag_error (hd : 0 < d) (hk : k < 900) (hn : (n : ℚ) = x * F64.one * d)
    (hx : x ≤ 2 ^ k) :
    |(F64.mag (F64.pack neg (roundMag n d)) : ℚ) / F64.one - x| ≤ 2 ^ k / 2 ^ 54 := by
  have hone := one_cast_pos
  have hdq : (0 : ℚ) < d := Nat.cast_pos.mpr hd
  have hle : n ≤ 2 ^ (53 + (1021 + k)) * d := by
    rw [two_pow_eq_mul_one (k := k) (by omega), ← Nat.cast_le (α := ℚ), hn]
    push_cast
    gcongr
  have hlast : (2 : ℚ) ^ (1021 + k) / 2 = 2 ^ k / 2 ^ 54 * F64.one := by
    have hpow : (2 : ℚ) ^ (1021 + k) * 2 ^ 53 = 2 ^ k * F64.one := by
      rw [← pow_add]
      exact_mod_cast two_pow_eq_mul_one (k := k) (by omega)
    generalize (2 : ℚ) ^ (1021 + k) = lastPlace at *
    linarith
  have herror := mag_pack_roundMag_error (neg := neg) hd (by omega) hle
  rw [hn, mul_div_cancel_right₀ _ hdq.ne', hlast] at herror
  rw [div_sub' hone.ne', abs_div, abs_of_pos hone, div_le_iff₀ hone, mul_comm (F64.one : ℚ) x]
  exact herror

/-- An error of the magnitude is an error of the value, whichever sign a zero has. -/
theorem toRat_pack_roundMag_sub {ε : ℚ} (hneg : neg = true → x ≤ 0) (hpos : neg = false → 0 ≤ x)
    (h : |(F64.mag (F64.pack neg (roundMag n d)) : ℚ) / F64.one - abs x| ≤ ε) :
    |F64.toRat (F64.pack neg (roundMag n d)) - x| ≤ ε := by
  rw [toRat_pack_roundMag]
  cases neg with
  | true =>
    rw [abs_of_nonpos (hneg rfl)] at h
    rw [if_pos rfl, ← abs_neg]
    convert h using 2
    ring
  | false =>
    rw [abs_of_nonneg (hpos rfl)] at h
    rwa [if_neg Bool.false_ne_true]

end

/-- An integer of at most 53 bits converts exactly. -/
theorem toRat_ofInt {z : Int} (h : z.natAbs < 2 ^ 53) : F64.toRat (F64.ofInt z) = z := by
  have hmag := mag_pack_roundMag_exact (neg := decide (z < 0)) Nat.one_pos
    (by decide : 1074 ≤ 2000) h
  rw [Nat.mul_one, ← F64.one_eq] at hmag
  rw [F64.ofInt, ← F64.one_eq, toRat_pack_roundMag, hmag, Nat.cast_mul,
    mul_div_cancel_right₀ _ one_cast_pos.ne', Nat.cast_natAbs]
  rcases lt_or_ge z 0 with hz | hz
  · rw [if_pos (decide_eq_true hz), abs_of_neg hz, Int.cast_neg, neg_neg]
  · rw [if_neg (by simpa using hz), abs_of_nonneg hz]

theorem F64.UpTo.mag_cast {a : F64} {i : Nat} (h : F64.UpTo a i) :
    (F64.mag a : ℚ) = F64.toRat a * F64.one := by
  rw [toRat_eq_div, h.scaled_eq, Int.cast_natCast, div_mul_cancel₀ _ one_cast_pos.ne']

section
variable {a b : F64} {i j k : Nat}

theorem mag_mul_mag_cast (ha : F64.UpTo a i) (hb : F64.UpTo b j) :
    ((F64.mag a * F64.mag b : ℕ) : ℚ) = F64.toRat a * F64.toRat b * F64.one * F64.one := by
  rw [Nat.cast_mul, ha.mag_cast, hb.mag_cast]
  ring

theorem fdiv_error (ha : F64.UpTo a i) (hb : F64.UpTo b j) (hpos : 0 < F64.toRat b)
    (hk : k < 900) (hx : F64.toRat a / F64.toRat b ≤ 2 ^ k) :
    |F64.toRat (fdiv a b) - F64.toRat a / F64.toRat b| ≤ 2 ^ k / 2 ^ 54 := by
  have hmag : 0 < F64.mag b := by
    rw [← Nat.cast_pos (α := ℚ), hb.mag_cast]
    exact mul_pos hpos one_cast_pos
  have hne : (F64.mag b != 0) = true := bne_iff_ne.mpr hmag.ne'
  have hnonneg := div_nonneg ha.toRat_range.1 hpos.le
  rw [fdiv, ha.finite, hb.finite, hne, ha.positive, hb.positive]
  refine toRat_pack_roundMag_sub (neg := false) nofun (fun _ => hnonneg) ?_
  rw [abs_of_nonneg hnonneg]
  refine roundMag_error hmag hk ?_ hx
  rw [← F64.one_eq, Nat.cast_mul, ha.mag_cast, hb.mag_cast]
  field_simp

theorem fmul_error (ha : F64.UpTo a i) (hb : F64.UpTo b j)
    (hk : k < 900) (hx : F64.toRat a * F64.toRat b ≤ 2 ^ k) :
    |F64.toRat (fmul a b) - F64.toRat a * F64.toRat b| ≤ 2 ^ k / 2 ^ 54 := by
  have hnonneg := mul_nonneg ha.toRat_range.1 hb.toRat_range.1
  rw [fmul, ha.finite, hb.finite, ha.positive, hb.positive, ← F64.one_eq]
  refine toRat_pack_roundMag_sub (neg := false) nofun (fun _ => hnonneg) ?_
  rw [abs_of_nonneg hnonneg]
  exact roundMag_error F64.one_pos hk (mag_mul_mag_cast ha hb) hx

/-- A product of 53 bits and more is a multiple of its last place. -/
theorem dvd_mag_fmul (ha : F64.UpTo a i) (hb : F64.UpTo b j) (hk : k < 900)
    (hlow : 2 ^ k ≤ F64.toRat a * F64.toRat b) (hx : F64.toRat a * F64.toRat b < 2 * 2 ^ k) :
    2 ^ (1022 + k) ∣ F64.mag (fmul a b) := by
  have hone := one_cast_pos
  have hprod := mag_mul_mag_cast ha hb
  rw [fmul, ha.finite, hb.finite, ha.positive, hb.positive, ← F64.one_eq]
  refine dvd_mag_pack_roundMag (e := 1022 + k) F64.one_pos (by omega) ?_ ?_
  · rw [two_pow_eq_mul_one (k := k) (by omega), ← Nat.cast_le (α := ℚ), hprod]
    push_cast
    gcongr
  · rw [two_pow_eq_mul_one (k := k + 1) (by omega), ← Nat.cast_lt (α := ℚ), hprod]
    push_cast
    rw [pow_succ']
    gcongr

theorem toRat_add_toRat (a b : F64) :
    F64.toRat a + F64.toRat b = ((F64.scaled a + F64.scaled b : Int) : ℚ) / F64.one := by
  rw [toRat_eq_div, toRat_eq_div, Int.cast_add, add_div]

theorem abs_toRat_add_toRat (a b : F64) :
    |F64.toRat a + F64.toRat b| = ((F64.scaled a + F64.scaled b).natAbs : ℚ) / F64.one := by
  rw [toRat_add_toRat, abs_div, abs_of_pos one_cast_pos, Nat.cast_natAbs, Int.cast_abs]

theorem nonpos_of_sumSign (h : sumSign a b = true) : F64.toRat a + F64.toRat b ≤ 0 := by
  have hsum : F64.scaled a + F64.scaled b ≤ 0 := by
    unfold sumSign at h
    split_ifs at h with hzero
    · exact hzero.le
    · exact (of_decide_eq_true h).le
  rw [toRat_add_toRat]
  exact div_nonpos_of_nonpos_of_nonneg (Int.cast_nonpos.mpr hsum) one_cast_pos.le

theorem nonneg_of_not_sumSign (h : sumSign a b = false) : 0 ≤ F64.toRat a + F64.toRat b := by
  have hsum : 0 ≤ F64.scaled a + F64.scaled b := by
    unfold sumSign at h
    split_ifs at h with hzero
    · exact hzero.ge
    · exact not_lt.mp (of_decide_eq_false h)
  rw [toRat_add_toRat]
  exact div_nonneg (Int.cast_nonneg hsum) one_cast_pos.le

theorem fadd_error (ha : F64.isFinite a = true) (hb : F64.isFinite b = true) (hk : k < 900)
    (hx : |F64.toRat a + F64.toRat b| ≤ 2 ^ k) :
    |F64.toRat (fadd a b) - (F64.toRat a + F64.toRat b)| ≤ 2 ^ k / 2 ^ 54 := by
  rw [fadd, ha, hb]
  refine toRat_pack_roundMag_sub nonpos_of_sumSign nonneg_of_not_sumSign ?_
  refine roundMag_error Nat.one_pos hk ?_ hx
  rw [abs_toRat_add_toRat, div_mul_cancel₀ _ one_cast_pos.ne', Nat.cast_one, mul_one]

/-- A sum that needs no more than 53 bits is exact. -/
theorem fadd_exact (ha : F64.isFinite a = true) (hb : F64.isFinite b = true) (hk : k < 2000)
    (hdvd : 2 ^ k ∣ (F64.scaled a + F64.scaled b).natAbs)
    (hx : (F64.scaled a + F64.scaled b).natAbs ≤ 2 ^ 53 * 2 ^ k) :
    F64.toRat (fadd a b) = F64.toRat a + F64.toRat b := by
  obtain ⟨m, hm⟩ := hdvd
  rw [Nat.mul_comm] at hm
  have hmag := mag_pack_roundMag_exact_of_le (neg := sumSign a b) Nat.one_pos hk
    (Nat.le_of_mul_le_mul_right (hm ▸ hx) (Nat.two_pow_pos k))
  rw [← sub_eq_zero, ← abs_nonpos_iff, fadd, ha, hb]
  refine toRat_pack_roundMag_sub nonpos_of_sumSign nonneg_of_not_sumSign ?_
  rw [Nat.mul_one, ← hm] at hmag
  rw [hmag, abs_toRat_add_toRat, sub_self, abs_zero]

end

/-! ### The error of the two conversions -/

/-- `Q` of R156 and R157, rounded once (R158). -/
def rawQuotient (raw : Word) : F64 :=
  fdiv (F64.ofInt raw.toNat) (F64.ofInt Config.params.divisor)

theorem rawQuotient_upTo (raw : Word) : F64.UpTo (rawQuotient raw) 1 := quotient_upTo raw

theorem divisor_upTo : F64.UpTo (F64.ofInt Config.params.divisor) 65535 where
  positive := by decide +kernel
  finite := by decide +kernel
  mag_le := by decide +kernel

theorem tSpan_upTo : F64.UpTo (F64.ofInt Config.params.tSpan) 175 where
  positive := by decide +kernel
  finite := by decide +kernel
  mag_le := by decide +kernel

theorem hSpan_upTo : F64.UpTo (F64.ofInt Config.params.hSpan) 100 where
  positive := by decide +kernel
  finite := by decide +kernel
  mag_le := by decide +kernel

theorem toRat_divisor : F64.toRat (F64.ofInt Config.params.divisor) = 65535 :=
  toRat_ofInt (z := 65535) (by decide)

theorem toRat_tSpan : F64.toRat (F64.ofInt Config.params.tSpan) = 175 :=
  toRat_ofInt (z := 175) (by decide)

theorem toRat_hSpan : F64.toRat (F64.ofInt Config.params.hSpan) = 100 :=
  toRat_ofInt (z := 100) (by decide)

theorem toRat_tOffset : F64.toRat (F64.ofInt Config.params.tOffset) = -45 :=
  toRat_ofInt (z := -45) (by decide)

theorem rawQuotient_error (raw : Word) :
    |F64.toRat (rawQuotient raw) - raw.toNat / 65535| ≤ 1 / 2 ^ 54 := by
  have hraw : F64.toRat (F64.ofInt raw.toNat) = raw.toNat := toRat_ofInt (by omega)
  have hle : (raw.toNat : ℚ) / 65535 ≤ 2 ^ 0 := by
    rw [div_le_iff₀ (by norm_num)]
    exact_mod_cast Nat.le_pred_of_lt raw.isLt
  have herror := fdiv_error (k := 0) (ofInt_upTo raw) divisor_upTo (by rw [toRat_divisor]; norm_num)
    (by decide) (by rwa [hraw, toRat_divisor])
  rwa [hraw, toRat_divisor] at herror

theorem convH_eq (raw : Word) :
    convH raw = fmul (F64.ofInt Config.params.hSpan) (rawQuotient raw) := rfl

/-- The humidity: one rounding of `Q` and one of its product with the span. -/
theorem convH_error (raw : Word) :
    |F64.toRat (convH raw) - 20 * (raw.toNat : ℚ) / 13107| < 13 / 10 ^ 15 := by
  have hle : F64.toRat (rawQuotient raw) ≤ 1 := mod_cast (rawQuotient_upTo raw).toRat_range.2
  have hquotient := rawQuotient_error raw
  have hproduct := fmul_error (k := 7) hSpan_upTo (rawQuotient_upTo raw) (by decide)
    (by rw [toRat_hSpan]; linarith)
  rw [toRat_hSpan, abs_le] at hproduct
  rw [abs_le] at hquotient
  rw [convH_eq, abs_lt]
  constructor <;> linarith

/-- The product of the temperature's span with `Q`. -/
def spanProduct (raw : Word) : F64 := fmul (F64.ofInt Config.params.tSpan) (rawQuotient raw)

theorem convT_eq (raw : Word) :
    convT raw = fadd (F64.ofInt Config.params.tOffset) (spanProduct raw) := rfl

theorem spanProduct_upTo (raw : Word) : F64.UpTo (spanProduct raw) 175 :=
  fmul_upTo tSpan_upTo.positive tSpan_upTo.finite (rawQuotient_upTo raw) (by decide +kernel)
    (by decide +kernel)

theorem tOffset_finite : F64.isFinite (F64.ofInt Config.params.tOffset) = true := by
  decide +kernel

theorem scaled_tOffset : F64.scaled (F64.ofInt Config.params.tOffset) = -45 * (F64.one : Int) := by
  decide +kernel

/-- From 128 on, the product's last place is so large that the offset is added exactly. -/
theorem convT_eq_of_large {raw : Word} (h : 128 ≤ 175 * F64.toRat (rawQuotient raw)) :
    F64.toRat (convT raw) = -45 + F64.toRat (spanProduct raw) := by
  have hle : F64.toRat (rawQuotient raw) ≤ 1 := mod_cast (rawQuotient_upTo raw).toRat_range.2
  have hproduct := spanProduct_upTo raw
  have hmag := hproduct.mag_le
  have hsum : F64.scaled (F64.ofInt Config.params.tOffset) + F64.scaled (spanProduct raw) =
      -45 * (F64.one : Int) + F64.mag (spanProduct raw) := by
    rw [scaled_tOffset, hproduct.scaled_eq]
  have hlast : 2 ^ (1022 + 7) ∣ F64.mag (spanProduct raw) :=
    dvd_mag_fmul (k := 7) tSpan_upTo (rawQuotient_upTo raw) (by decide)
      (by rw [toRat_tSpan]; linarith) (by rw [toRat_tSpan]; linarith)
  have hone : (2 ^ (1022 + 7) : ℕ) ∣ F64.one := by
    rw [F64.one_eq]
    exact pow_dvd_pow 2 (by decide)
  have hbound : 2 ^ 53 * 2 ^ (1022 + 7) = 256 * F64.one := by
    rw [← pow_add]
    exact two_pow_eq_mul_one (k := 8) (by decide)
  rw [convT_eq, ← toRat_tOffset]
  refine fadd_exact (k := 1022 + 7) tOffset_finite hproduct.finite (by decide) ?_ ?_
  · rw [hsum, ← Int.natCast_dvd]
    exact dvd_add (Dvd.dvd.mul_left (Int.natCast_dvd_natCast.mpr hone) _)
      (Int.natCast_dvd_natCast.mpr hlast)
  · rw [hsum, hbound]
    omega

/-- The temperature: up to 128 the product and the sum each lose half of the last place of a value
below 128; from there on the product loses twice as much and the sum nothing. -/
theorem convT_error (raw : Word) :
    |F64.toRat (convT raw) - (35 * (raw.toNat : ℚ) - 589815) / 13107| < 24 / 10 ^ 15 := by
  obtain ⟨hnonneg, hle⟩ := (rawQuotient_upTo raw).toRat_range
  have hquotient := rawQuotient_error raw
  have hround : ∀ k < 900, 175 * F64.toRat (rawQuotient raw) ≤ 2 ^ k →
      |F64.toRat (spanProduct raw) - 175 * F64.toRat (rawQuotient raw)| ≤ 2 ^ k / 2 ^ 54 := by
    rw [← toRat_tSpan]
    exact fun k => fmul_error tSpan_upTo (rawQuotient_upTo raw)
  rw [abs_le] at hquotient
  rw [abs_lt]
  rcases le_total (175 * F64.toRat (rawQuotient raw)) 128 with hsmall | hlarge
  · have hproduct := hround 7 (by decide) (by linarith)
    rw [abs_le] at hproduct
    have hpos := (spanProduct_upTo raw).toRat_range.1
    have hsum : |F64.toRat (convT raw) - (-45 + F64.toRat (spanProduct raw))| ≤
        2 ^ 7 / 2 ^ 54 := by
      rw [convT_eq, ← toRat_tOffset]
      refine fadd_error tOffset_finite (spanProduct_upTo raw).finite (by decide) ?_
      rw [toRat_tOffset, abs_le]
      constructor <;> linarith
    rw [abs_le] at hsum
    constructor <;> linarith
  · have hproduct := hround 8 (by decide) (by push_cast at hle; linarith)
    rw [abs_le] at hproduct
    rw [convT_eq_of_large hlarge]
    constructor <;> linarith

/-- Settles O27: each rounding adds half of a last place at most. -/
theorem conversionAccuracy : Obligations.ConversionAccuracy :=
  fun raw => ⟨convT_error raw, convH_error raw⟩

/-! ### What the error bounds give -/

/-- Settles O28: the exact temperature is 30/13107 below zero at 16851 and 5/13107 above it at
16852, far more than the error. -/
theorem temperatureSign : Obligations.TemperatureSign := by
  refine fun raw => ⟨fun hlow => ?_, fun hhigh => ?_⟩
  · have herror := (abs_lt.mp (convT_error raw)).2
    have hraw : (raw.toNat : ℚ) ≤ 16851 := mod_cast hlow
    linarith
  · have herror := (abs_lt.mp (convT_error raw)).1
    have hraw : (16852 : ℚ) ≤ raw.toNat := mod_cast hhigh
    linarith

/-- Settles O29: neighbouring raw words are 35/13107 and 20/13107 apart, far more than the error. -/
theorem conversionsIncrease : Obligations.ConversionsIncrease := by
  intro a b hab
  have hraw : (a.toNat : ℚ) + 1 ≤ b.toNat := mod_cast BitVec.lt_def.mp hab
  constructor
  · have hlow := (abs_lt.mp (convT_error a)).2
    have hhigh := (abs_lt.mp (convT_error b)).1
    linarith
  · have hlow := (abs_lt.mp (convH_error a)).2
    have hhigh := (abs_lt.mp (convH_error b)).1
    linarith

end Sys2Proof.Machine
end

section
/-!
SUPPORT. The balance of handles (R199): every handle `open` has returned has been passed to `close`,
or is held. A `close` that is waited for has been issued, and so counts, once.
-/

namespace Sys2Proof.Machine

/-! ### What the balance asks of a state -/

/-- While no `close` is in flight, the handle held has not been given back. -/
theorem releaseOk_iff_of_not_closing {s : State} (h : s.inFlight ≠ some .hostClose) :
    s.ReleaseOk ↔ s.granted = closedHandles s.trace ++ s.handle.toList := by
  rw [State.ReleaseOk, if_neg h]

/-- With a `close` in flight, or no handle, every handle has been given back. -/
theorem releaseOk_iff_of_given_back {s : State}
    (h : s.inFlight = some .hostClose ∨ s.handle = none) :
    s.ReleaseOk ↔ s.granted = closedHandles s.trace := by
  rcases h with hf | hh
  · rw [State.ReleaseOk, if_pos hf, List.append_nil]
  · rw [State.ReleaseOk, hh, Option.toList_none, ite_self, List.append_nil]

/-- An operation that grants and gives back no handle, with no `close` in flight before or after it,
keeps the balance. -/
theorem State.ReleaseOk.congr {s t : State} (hr : s.ReleaseOk)
    (hs : s.inFlight ≠ some .hostClose) (ht : t.inFlight ≠ some .hostClose)
    (htrace : closedHandles t.trace = closedHandles s.trace)
    (hgranted : t.granted = s.granted := by rfl) (hhandle : t.handle = s.handle := by rfl) :
    t.ReleaseOk := by
  rw [releaseOk_iff_of_not_closing hs] at hr
  rw [releaseOk_iff_of_not_closing ht, hgranted, htrace, hhandle, hr]

/-- A call that closes no handle leaves the closed handles as they are, issued anew or not. -/
theorem closedHandles_issue {c : XportCall} (s : State)
    (hc : closedHandles [c] = [] := by rfl) :
    closedHandles (issue c s).trace = closedHandles s.trace := by
  rw [issue_trace]
  split_ifs
  · rfl
  · rw [closedHandles_append, hc, List.append_nil]

theorem phaseSettle_releaseOk {s : State} (hr : s.ReleaseOk) (hf : s.inFlight = none) :
    (phaseSettle s).ReleaseOk := by
  have hs : s.inFlight ≠ some .hostClose := by simp [hf]
  unfold phaseSettle
  dsimp only
  split_ifs
  · exact hr.congr hs hs (by rw [closedHandles_append]; exact List.append_nil _)
  · split
    · exact hr
    · exact hr.congr hs hs rfl

/-! ### `CLOSE` -/

theorem Runs.not_closing {i : Instr} {s : State} (hrun : Runs i s) (hi : i ≠ .hostClose) :
    s.inFlight ≠ some .hostClose := by
  rcases hrun.inFlight with hf | hf <;> simp [hf, hi]

/-- The call that a `CLOSE` in flight waits for is the `close` of the handle held. -/
theorem State.HoldOk.outstanding_of_closing {s : State} {h : Handle} (hk : s.HoldOk)
    (hf : s.inFlight = some .hostClose) (hh : s.handle = some h) :
    s.outstanding = some (.closeBus h) := by
  rcases hk with ⟨hi, -⟩ | ⟨_, _, _, -, -, hi, -⟩ | ⟨_, -, -, hi, -⟩ |
    ⟨h', -, hh', -, hout⟩ | ⟨_, -, -, hi, -⟩ | ⟨_, -, -, hi, -⟩
  case inr.inr.inr.inl => rw [hout, Option.some.inj (hh'.symm.trans hh)]
  all_goals cases hf.symm.trans hi

/-- Once its `close` is issued the handle is closed, and it was not closed before: a `CLOSE` that is
resumed has its call on the trace already (R65). -/
theorem granted_eq_closedHandles_issue_close {s : State} {h : Handle} (hs : s.Inv)
    (hk : s.HoldOk) (hrun : Runs .hostClose s) (hr : s.ReleaseOk) (ho : s.state = .opened)
    (hh : s.handle = some h) : s.granted = closedHandles (issue (.closeBus h) s).trace := by
  rcases hrun.inFlight with hf | hf
  · have hidle : s.phase = .idle := hs.idle (by simp [ho])
    have hout : s.outstanding = none :=
      (hk.noneWaiting hf (by simp [hidle]) (by simp [hidle])).2
    rw [issue_trace, if_neg (by simp [hout]), closedHandles_append,
      (releaseOk_iff_of_not_closing (by simp [hf])).mp hr, hh]
    rfl
  · rw [issue_trace, if_pos (hk.outstanding_of_closing hf hh)]
    exact (releaseOk_iff_of_given_back (.inl hf)).mp hr

/-! ### Every instruction and every step keeps the balance -/

theorem Effect.releaseOk {i : Instr} {s t : State} (hs : s.Inv) (hk : s.HoldOk)
    (hr : s.ReleaseOk) (hrun : Runs i s) (h : Effect s i t) : t.ReleaseOk := by
  have hnone (hc : s.state = .closed) : s.handle = none := hs.handle_none_iff_closed.mpr hc
  cases h with
  | notAccepted => exact hr
  | misuse _ _ hi => exact hr.congr (hrun.not_closing hi) (by simp) rfl
  | openHeld => exact hr.congr (hrun.not_closing (by simp)) (by simp) (closedHandles_issue s)
  | openError =>
    exact hr.congr (hrun.not_closing (by simp)) (by simp) (closedHandles_issue s)
      (List.append_nil _)
  | opened bus addr _ h _ hc =>
    have hgranted : s.granted = closedHandles (issue (.openBus bus addr) s).trace := by
      rw [closedHandles_issue s]
      exact (releaseOk_iff_of_given_back (.inr (hnone hc))).mp hr
    exact (releaseOk_iff_of_not_closing (by simp)).mpr (congrArg (· ++ [h]) hgranted)
  | softResetHeld _ _ hi =>
    have hne : i ≠ .hostClose := by rcases hi with rfl | rfl <;> simp
    exact hr.congr (hrun.not_closing hne) (by simp) (closedHandles_issue s)
  | softReset _ _ _ _ hi =>
    have hne : i ≠ .hostClose := by rcases hi with rfl | rfl <;> simp
    dsimp only
    split_ifs <;> exact hr.congr (hrun.not_closing hne) (by simp) (closedHandles_issue s)
  | readStarts =>
    exact hr.congr (hrun.not_closing (by simp)) (hrun.not_closing (by simp)) rfl
  | modeSet => exact hr.congr (hrun.not_closing (by simp)) (by simp) rfl
  | closedAlready hc =>
    exact (releaseOk_iff_of_given_back (s := finishOk s) (.inr (hnone hc))).mpr
      ((releaseOk_iff_of_given_back (.inr (hnone hc))).mp hr)
  | closeHeld h ho hh =>
    exact (releaseOk_iff_of_given_back (.inl rfl)).mpr
      (granted_eq_closedHandles_issue_close hs hk hrun hr ho hh)
  | closed h _ ho hh =>
    exact (releaseOk_iff_of_given_back (.inr rfl)).mpr
      (granted_eq_closedHandles_issue_close hs hk hrun hr ho hh)
  | crc8 =>
    rw [crcFold_eq]
    exact hr.congr (hrun.not_closing (by simp)) (by simp) rfl
  | decode =>
    exact hr.congr (hrun.not_closing (by simp)) (by simp) (by rw [decodeAndReport_trace]; rfl)
      (decodeAndReport_granted _) (decodeAndReport_handle _)
  | triggerHeld _ _ _ _ _ _ hm =>
    have hf : s.inFlight ≠ some .hostClose := by simp [hk.inFlight_measuring hm]
    exact hr.congr hf hf (closedHandles_issue s)
  | trigger _ _ _ _ _ _ _ _ hm =>
    have hf : s.inFlight ≠ some .hostClose := by simp [hk.inFlight_measuring hm]
    dsimp only
    split_ifs
    · exact hr.congr hf hf (closedHandles_issue s)
    · exact hr.congr hf (by simp) (closedHandles_issue s)

theorem StepEffect.releaseOk {s t : State} (hs : s.Inv) (hk : s.HoldOk) (hr : s.ReleaseOk)
    (h : StepEffect s t) : t.ReleaseOk := by
  cases h with
  | resumed _ _ hf heffect => exact heffect.releaseOk hs hk hr (.of_inFlight hk hf)
  | requested _ rest _ hf hm _ heffect =>
    exact heffect.releaseOk (s := { s with hostIn := rest }) hs.congr hk hr (.of_request hf hm)
  | commanded _ _ hf _ _ hd heffect => exact heffect.releaseOk hs hk hr (.of_command hf hd)
  | reserved _ _ hf => exact hr.congr (by simp [hf]) (by simp) rfl
  | nothing => exact hr
  | settle hf => exact phaseSettle_releaseOk hr hf
  | readHeld _ hf | readDone _ _ _ _ hf =>
    have hnot : s.inFlight ≠ some .hostClose := by simp [hf]
    exact hr.congr hnot hnot (closedHandles_issue s)
  | readFailed _ _ _ _ _ hf => exact hr.congr (by simp [hf]) (by simp) (closedHandles_issue s)
  | decoded hf =>
    exact hr.congr (by simp [hf]) (by simp) (by rw [decodeAndReport_trace])
      (decodeAndReport_granted s) (decodeAndReport_handle s)

/-- Settles O57: only `OPEN` grants a handle, and only `CLOSE` gives one back. -/
theorem stepKeepsHandleBalance : Obligations.StepKeepsHandleBalance :=
  fun _ _ hs hk hr h => (step_effect h).releaseOk hs hk hr

end Sys2Proof.Machine
end

section
/-!
SUPPORT. The session operations one by one: an equation for each case of `OPEN`, `SRESET`, `SETMODE`
and `CLOSE`, and the state an error leaves, inside and outside a `READ`.
-/

namespace Sys2Proof.Machine

/-! ### Where an operation ends -/

/-- The way out of a `READ` (R189). -/
theorem leaveMeasuring_of_measuring {s : State} (hm : s.state = .measuring) :
    leaveMeasuring s = { s with state := .opened, phase := .idle, settleT := none } := by
  simp [leaveMeasuring, hm]

/-- An error raised in a `READ` ends it, writes `STATUS` and what R32 leaves open, and nothing
else. -/
theorem raise_eq_ended_of_measuring {s : State} (e : Raised) (hm : s.state = .measuring) :
    raise e s =
      { s with state := .opened, phase := .idle, settleT := none }.ended e.status (raise e s) := by
  rw [raise, leaveMeasuring_of_measuring hm]
  rfl

/-! ### `OPEN` -/

section
variable {s : State} {bus addr mode : Byte}

theorem exec_hostOpen_opened (hs : s.state = .opened) :
    exec (.hostOpen bus addr mode) s = .next (raise .programming s) := by
  simp [exec, execOpen, hs]

theorem exec_hostOpen_illegal (hs : s.state = .closed) (hm : ¬ isMeasurementMode mode = true) :
    exec (.hostOpen bus addr mode) s = .next (raise .programming s) := by
  simp [exec, execOpen, hs, hm]

theorem exec_hostOpen_held (hs : s.state = .closed) (hm : isMeasurementMode mode = true)
    (ha : s.openAnswers = []) :
    exec (.hostOpen bus addr mode) s =
      .next (hold (.hostOpen bus addr mode) (issue (.openBus bus addr) s)) := by
  simp [exec, execOpen, hs, hm, xportOpen_held ha]

theorem exec_hostOpen_error {rest : List (Option Handle)} (hs : s.state = .closed)
    (hm : isMeasurementMode mode = true) (ha : s.openAnswers = none :: rest) :
    exec (.hostOpen bus addr mode) s =
      .next (raise .openError { answered (issue (.openBus bus addr) s) with
        openAnswers := rest }) := by
  simp [exec, execOpen, hs, hm, xportOpen_answered ha]

theorem exec_hostOpen_handle {h : Handle} {rest : List (Option Handle)} (hs : s.state = .closed)
    (hm : isMeasurementMode mode = true) (ha : s.openAnswers = some h :: rest) :
    exec (.hostOpen bus addr mode) s =
      .next (finishOk (startSession h bus addr mode { answered (issue (.openBus bus addr) s) with
        openAnswers := rest
        granted := s.granted ++ [h] })) := by
  simp [exec, execOpen, hs, hm, xportOpen_answered ha]

end

/-- Settles O32: the state decides, then the mode, then the transport's answer. -/
theorem openCompletes : Obligations.OpenCompletes := by
  intro s bus addr mode hb
  refine ⟨fun ho => ?_, fun hc hm => ?_, fun hc hm => ⟨fun h rest ha => ?_, fun rest ha => ?_,
    fun ha => ?_⟩⟩
  · exact ⟨_, exec_hostOpen_opened ho, raise_eq_ended .programming hb (by simp [ho])⟩
  · exact ⟨_, exec_hostOpen_illegal hc (mt (isMeasurementMode_iff mode).mp hm),
      raise_eq_ended .programming hb (by simp [hc])⟩
  · exact ⟨_, exec_hostOpen_handle hc ((isMeasurementMode_iff mode).mpr hm) ha, rfl⟩
  · exact ⟨_, exec_hostOpen_error hc ((isMeasurementMode_iff mode).mpr hm) ha,
      raise_eq_ended .openError hb (by simp [hc])⟩
  · exact exec_hostOpen_held hc ((isMeasurementMode_iff mode).mpr hm) ha

/-! ### `SRESET` -/

theorem exec_softReset {i : Instr} {s : State} (hi : i = .hostSreset ∨ i = .cmdSoftReset)
    (ho : s.state = .opened) : exec i s = writeSoftReset s := by
  rcases hi with rfl | rfl
  · simp [exec, execSreset, ho]
  · simp [exec, execCmdSoftReset, ho]

/-- Settles O33: in `Open` both instructions are the one write, and the status decides. -/
theorem softResetCompletes : Obligations.SoftResetCompletes := by
  intro s i h hi hb ho hh
  rw [exec_softReset hi ho]
  refine ⟨fun rest hw => ?_, fun st rest hw hne => ?_, fun hw => ?_⟩
  · exact ⟨_, writeSoftReset_answered hh hw, rfl⟩
  · refine ⟨_, writeSoftReset_answered hh hw, ?_⟩
    dsimp only
    rw [if_neg hne]
    exact raise_eq_ended .commandError hb (by simp [ho])
  · exact writeSoftReset_held hh hw

/-! ### `READ` -/

theorem exec_hostRead_opened {s : State} (ho : s.state = .opened) :
    exec .hostRead s = .next (startRead s) := by
  simp [exec, execRead, ho]

/-- Settles O34: the start of a `READ` writes what R184 names. -/
theorem readStarts : Obligations.ReadStarts :=
  fun _ ho => ⟨_, exec_hostRead_opened ho, rfl⟩

/-! ### `SETMODE` -/

section
variable {s : State} {imm8 : Byte}

theorem exec_hostSetmode_legal (hs : s.state = .opened) (hm : isMeasurementMode imm8 = true) :
    exec (.hostSetmode imm8) s = .next (finishOk { s with mode := imm8 }) := by
  simp [exec, execSetmode, hs, hm]

theorem exec_hostSetmode_illegal (hs : s.state = .opened) (hm : ¬ isMeasurementMode imm8 = true) :
    exec (.hostSetmode imm8) s = .next (raise .programming s) := by
  simp [exec, execSetmode, hs, hm]

theorem exec_hostSetmode_closed (hs : s.state = .closed) :
    exec (.hostSetmode imm8) s = .next (raise .programming s) := by
  simp [exec, execSetmode, hs]

end

/-- Settles O42: the state decides, then the byte. -/
theorem setmodeCompletes : Obligations.SetmodeCompletes := by
  intro s imm8 hb
  refine ⟨fun ho hm => ?_, fun ho hm => ?_, fun hc => ?_⟩
  · exact ⟨_, exec_hostSetmode_legal ho ((isMeasurementMode_iff imm8).mpr hm), rfl⟩
  · exact ⟨_, exec_hostSetmode_illegal ho (mt (isMeasurementMode_iff imm8).mp hm),
      raise_eq_ended .programming hb (by simp [ho])⟩
  · exact ⟨_, exec_hostSetmode_closed hc, raise_eq_ended .programming hb (by simp [hc])⟩

/-! ### `CLOSE` -/

section
variable {s : State} {h : Handle}

theorem exec_hostClose_answered {n : Nat} (hs : s.state = .opened) (hh : s.handle = some h)
    (hc : s.closeAnswers = n + 1) :
    exec .hostClose s = .next (finishOk { answered (issue (.closeBus h) s) with
      closeAnswers := n, handle := none, state := .closed }) := by
  simp [exec, execClose, hs, hh, xportClose_answered hc]

theorem exec_hostClose_held (hs : s.state = .opened) (hh : s.handle = some h)
    (hc : s.closeAnswers = 0) :
    exec .hostClose s = .next (hold .hostClose (issue (.closeBus h) s)) := by
  simp [exec, execClose, hs, hh, xportClose_held hc]

theorem exec_hostClose_closed (hs : s.state = .closed) :
    exec .hostClose s = .next (finishOk s) := by
  simp [exec, execClose, hs]

end

/-- Settles O43: the state decides, then whether the transport answers. -/
theorem closeCompletes : Obligations.CloseCompletes := by
  intro s
  refine ⟨fun h n ho hh hc => ?_, fun h ho hh hc => ?_, fun hs => ?_⟩
  · exact ⟨_, exec_hostClose_answered ho hh hc, rfl⟩
  · exact exec_hostClose_held ho hh hc
  · exact ⟨_, exec_hostClose_closed hs, rfl⟩

/-! ### A closed session -/

/-- `SRESET`, `READ` and `SETMODE` need a session (R193, R255). -/
theorem exec_sessionOperation_closed {s : State} {i : Instr} (hs : s.state = .closed)
    (hi : i = .hostSreset ∨ i = .hostRead ∨ ∃ m, i = .hostSetmode m) :
    exec i s = .next (raise .programming s) := by
  rcases hi with rfl | rfl | ⟨m, rfl⟩
  · simp [exec, execSreset, hs]
  · simp [exec, execRead, hs]
  · exact exec_hostSetmode_closed hs

/-- A decode ends with one of two statuses (R160). -/
theorem decodeAndReport_status (s : State) :
    (decodeAndReport s).status = .ok ∨ (decodeAndReport s).status = .checksumMismatch := by
  rcases decodeAndReport_cases s with ⟨x, y, h⟩ | ⟨field, e, a, h⟩
  · rw [decodeAndReport_measurement_eq_ended h]
    exact .inl rfl
  · rw [decodeAndReport_mismatch_eq_ended h]
    exact .inr rfl

/-- Settles O44: three operations are refused, and three run as in any state but `Measuring`. -/
theorem closedSessionMisuse : Obligations.ClosedSessionMisuse := by
  intro s hb hc
  have hm : s.state ≠ .measuring := by simp [hc]
  refine ⟨fun i hi => ?_, fun bus addr mode h rest hmode ha => ?_, fun data => ?_,
    fun f0 f1 f2 f3 f4 f5 => ?_⟩
  · exact ⟨_, exec_sessionOperation_closed hc hi, raise_eq_ended .programming hb hm⟩
  · exact ⟨_, exec_hostOpen_handle hc hmode ha, rfl, rfl⟩
  · exact ⟨_, exec_hostCrc8 data hm, rfl⟩
  · exact ⟨_, exec_hostDecode f0 f1 f2 f3 f4 f5 hm, decodeAndReport_status _⟩

end Sys2Proof.Machine
end

section
/-!
SUPPORT. A `READ` in progress, phase by phase: what each step runs, and how a whole `READ` is put
together from its phases.
-/

namespace Sys2Proof.Machine

/-! ### Phase `WRITE` -/

/-- Settles O8: the fetch finds the command in `MODE`. -/
theorem stepRunsCommandInMode : Obligations.StepRunsCommandInMode := by
  intro s i hf hm hp hd
  rw [step, fetch_command hf hm hp hd]

/-- A legal mode byte is the encoding of a measurement command (R25, R92). -/
theorem exists_command_of_legal {m : Byte} (h : isMeasurementMode m = true) :
    ∃ i, decodeCmd8 m = some i ∧ i.isMeasurement = true ∧ encode i = [m] := by
  have hrows : ∀ b ∈ measurementModes, b ∈ cmdRows.map Prod.fst := by decide
  have hsome : (decodeCmd8 m).isSome = true :=
    (decodeCmd8_isSome_iff m).mpr (hrows m (List.contains_iff_mem.mp h))
  obtain ⟨i, hi⟩ := Option.isSome_iff_exists.mp hsome
  obtain ⟨-, hmeasurement⟩ := cmdRows_isMeasurement _ (cmdRows_of_decodeCmd8 hi)
  exact ⟨i, hi, hmeasurement.trans h, encode_of_decodeCmd8 hi⟩

/-- Settles O35: every measurement command is the write of its own byte, and the status decides. -/
theorem triggerCompletes : Obligations.TriggerCompletes := by
  intro s i cmd h hi he hm hp hh
  rw [exec_measurement hi he]
  refine ⟨fun rest hw => ?_, fun st rest hw hne => ?_, fun hw => ?_⟩
  · exact writeMeasurement_answered hm hp hh hw
  · refine ⟨_, writeMeasurement_answered hm hp hh hw, ?_⟩
    dsimp only
    rw [if_neg hne]
    exact raise_eq_ended_of_measuring .commandError hm
  · exact writeMeasurement_held hm hp hh hw

/-! ### Phase `SETTLE` -/

theorem step_settle {s : State} (hf : s.inFlight = none) (hm : s.state = .measuring)
    (hp : s.phase = .settle) : step s = .next (phaseSettle s) := by
  simp [step, fetch, fetchMeasuring, hf, hm, hp]

/-- Settles O37: the elapsed time decides, then whether time passes. -/
theorem settleWaits : Obligations.SettleWaits := by
  intro s e hf hm hp he
  rw [step_settle hf hm hp]
  rcases phaseSettle_cases he with ⟨hle, h⟩ | ⟨hlt, d, rest, htime, h⟩ | ⟨hlt, htime, h⟩
  · have hnot : ¬ e < 10000 := not_lt.mpr hle
    exact ⟨fun _ => congrArg _ h, fun _ _ hlt => absurd hlt hnot, fun hlt => absurd hlt hnot⟩
  · refine ⟨fun hle => absurd hle (not_le.mpr hlt), fun d' rest' _ htime' => ?_,
      fun _ hnil => ?_⟩
    · obtain ⟨rfl, rfl⟩ := List.cons.inj (htime.symm.trans htime')
      exact congrArg _ h
    · cases htime.symm.trans hnil
  · refine ⟨fun hle => absurd hle (not_le.mpr hlt), fun d rest _ hcons => ?_, fun _ _ => ?_⟩
    · cases htime.symm.trans hcons
    · exact congrArg _ h

/-- Settles O38, by induction on the amounts of time that pass: each is added to the timer, and the
first step that finds 10 ms elapsed ends the wait. -/
theorem settleEnds : Obligations.SettleEnds := by
  intro s e hf hm hp he htotal
  induction htime : s.timePassing generalizing s e with
  | nil =>
    rw [htime] at htotal
    obtain ⟨helapsed, -, -⟩ := settleWaits s e hf hm hp he
    exact ⟨1, _, e, core_run_succ (helapsed htotal), htotal, le_self_add, by rw [htime]⟩
  | cons d rest ih =>
    obtain ⟨helapsed, hpasses, -⟩ := settleWaits s e hf hm hp he
    by_cases hle : 10000 ≤ e
    · exact ⟨1, _, e, core_run_succ (helapsed hle), hle, Nat.le_add_right _ _, rfl⟩
    · have hstep := hpasses d rest (not_le.mp hle) htime
      rw [htime, List.sum_cons] at htotal
      obtain ⟨k, t, waited, hrun, hmin, hmax, ht⟩ :=
        ih { s with settleT := some (e + d), timePassing := rest } (e + d) hf hm hp rfl
          (by dsimp only; omega) rfl
      refine ⟨k + 1, t, waited, (core_run_succ hstep).trans hrun, hmin, ?_, ht⟩
      rw [List.sum_cons]
      omega

/-! ### Phase `READ` -/

theorem step_read {s : State} (hf : s.inFlight = none) (hm : s.state = .measuring)
    (hp : s.phase = .read) : step s = phaseRead s := by
  simp [step, fetch, fetchMeasuring, hf, hm, hp]

/-- A `READ` that fails in phase `READ` has taken one answer; it loses the scratch registers and
ends (R187, R253). -/
theorem raise_loseScratch_eq_ended {s : State} (e : Raised) (c : XportCall)
    (rest : List ReadAnswer) (hm : s.state = .measuring) (ht : s.settleT = none) :
    let t := raise e (loseScratch { answered (issue c s) with readAnswers := rest })
    t = ({ s with
      state := .opened
      phase := .idle
      readAnswers := rest
      trace := s.traceWith c }.scratchOf t).ended e.status t := by
  intro t
  have hended : t = _ := raise_eq_ended_of_measuring e hm
  rw [← ht] at hended
  exact hended

/-- Settles O39: the transport's answer decides, and only six bytes make a frame. -/
theorem readPhase : Obligations.ReadPhase := by
  intro s h hf hm hp hh ht
  rw [step_read hf hm hp]
  refine ⟨fun b0 b1 b2 b3 b4 b5 rest hr => ?_, fun bytes rest hr hlen => ?_, fun rest hr => ?_,
    fun hr => ?_⟩
  · exact phaseRead_data hh hr
  · refine ⟨_, phaseRead_data hh hr, ?_⟩
    rw [frameOfBytes_eq_none hlen]
    refine ⟨raise_loseScratch_eq_ended _ _ rest hm ht, rfl, rfl, fun hle => ?_⟩
    simp [Raised.detail, hle]
  · exact ⟨_, phaseRead_error hh hr, raise_loseScratch_eq_ended _ _ rest hm ht, rfl, rfl, rfl⟩
  · exact phaseRead_held hh hr

/-! ### Phase `DECODE` -/

theorem step_decode {s : State} (hf : s.inFlight = none) (hm : s.state = .measuring)
    (hp : s.phase = .decode) : step s = .next (decodeAndReport s) := by
  simp [step, fetch, fetchMeasuring, phaseDecode, hf, hm, hp]

/-- Settles O40: the decode of R160, and the way out of the `READ`. -/
theorem decodePhase : Obligations.DecodePhase := by
  intro s hf hm hp ht
  refine ⟨fun x y h => ⟨_, step_decode hf hm hp, ?_⟩,
    fun field e a h => ⟨_, step_decode hf hm hp, ?_, decodeAndReport_mismatch_detail h⟩⟩
  · have hended := decodeAndReport_measurement_eq_ended h
    rw [leaveMeasuring_of_measuring hm, ← ht] at hended
    exact hended
  · have hended := decodeAndReport_mismatch_eq_ended h
    rw [leaveMeasuring_of_measuring hm, ← ht] at hended
    exact hended

/-! ### A whole `READ` -/

theorem traceWith_of_none {s : State} (c : XportCall) (h : s.outstanding = none) :
    s.traceWith c = s.trace ++ [c] := by
  simp [State.traceWith, h]

/-- The host's `READ` in `Open` is one step (R184). -/
theorem step_readRequest {s : State} {hosts : List Byte} (hf : s.inFlight = none)
    (ho : s.state = .opened) (hin : s.hostIn = 0x03 :: hosts) :
    step s = .next (startRead { s with hostIn := hosts }) := by
  have hdecode : decodeHost s.hostIn = .instr .hostRead hosts := by rw [hin]; rfl
  rw [stepRunsHostRequest s .hostRead hosts hf (by simp [ho]) hdecode]
  exact exec_hostRead_opened ho

section
variable {s : State} {h : Handle} {d : Nat} {f : RawFrame} {writes : List Int} {times : List Nat}
  {reads : List ReadAnswer}

/-- From phase `WRITE` to phase `SETTLE`, when the trigger is accepted (R185). -/
theorem step_write_accepted (hf : s.inFlight = none) (hm : s.state = .measuring)
    (hp : s.phase = .write) (hout : s.outstanding = none) (hh : s.handle = some h)
    (hmode : isMeasurementMode s.mode = true) (hw : s.writeAnswers = 0 :: writes) :
    step s = .next { s with
      phase := .settle
      settleT := some 0
      writeAnswers := writes
      outstanding := none
      trace := s.trace ++ [.writeByte h s.mode] } := by
  obtain ⟨i, hcmd, hi, he⟩ := exists_command_of_legal hmode
  obtain ⟨haccepted, -, -⟩ := triggerCompletes s i s.mode h hi he hm hp hh
  rw [stepRunsCommandInMode s i hf hm hp hcmd, haccepted writes hw, traceWith_of_none _ hout]

/-- From phase `SETTLE` to phase `READ`, when enough time passes at once (R186). -/
theorem run_settle (k : Nat) (hf : s.inFlight = none) (hm : s.state = .measuring)
    (hp : s.phase = .settle) (ht : s.settleT = some 0) (htime : s.timePassing = d :: times)
    (hd : 10000 ≤ d) :
    core.run (k + 2) s = core.run k { s with
      phase := .read
      settleT := none
      timePassing := times
      trace := s.trace ++ [.wait d] } := by
  obtain ⟨-, hpasses, -⟩ := settleWaits s 0 hf hm hp ht
  have hstep := hpasses d times (by decide) htime
  rw [Nat.zero_add] at hstep
  obtain ⟨helapsed, -, -⟩ :=
    settleWaits { s with settleT := some d, timePassing := times } d hf hm hp rfl
  rw [core_run_succ hstep, core_run_succ (helapsed hd)]

/-- From phase `READ` to phase `DECODE`, when six bytes arrive (R187). -/
theorem step_read_frame (hf : s.inFlight = none) (hm : s.state = .measuring)
    (hp : s.phase = .read) (hout : s.outstanding = none) (ht : s.settleT = none)
    (hh : s.handle = some h)
    (hr : s.readAnswers = .data [f.tHi, f.tLo, f.tCrc, f.hHi, f.hLo, f.hCrc] :: reads) :
    step s = .next { s with
      phase := .decode
      frame := f
      frameCnt := 6
      readAnswers := reads
      outstanding := none
      trace := s.trace ++ [.readBytes h 6] } := by
  obtain ⟨hframe, -, -, -⟩ := readPhase s h hf hm hp hh ht
  rw [hframe _ _ _ _ _ _ reads hr, traceWith_of_none _ hout]

end

/-- `s`, a `READ` just accepted, once its frame has arrived: phase `DECODE`, with the write, the
wait and the read of R70 on the trace, and what each took from its queue gone. -/
def frameReceived (h : Handle) (d : Nat) (f : RawFrame) (writes : List Int) (times : List Nat)
    (reads : List ReadAnswer) (s : State) : State :=
  { s with
    phase := .decode
    settleT := none
    frame := f
    frameCnt := 6
    writeAnswers := writes
    timePassing := times
    readAnswers := reads
    outstanding := none
    trace := s.trace ++ [.writeByte h s.mode, .wait d, .readBytes h 6] }

section
variable {s : State} {h : Handle} {d : Nat} {f : RawFrame} {writes : List Int} {times : List Nat}
  {reads : List ReadAnswer}

/-- A `READ` just accepted receives its frame in four steps (R185 to R187). -/
theorem run_frameReceived (k : Nat) (hf : s.inFlight = none) (hm : s.state = .measuring)
    (hp : s.phase = .write) (hout : s.outstanding = none) (hh : s.handle = some h)
    (hmode : isMeasurementMode s.mode = true) (hw : s.writeAnswers = 0 :: writes)
    (htime : s.timePassing = d :: times) (hd : 10000 ≤ d)
    (hr : s.readAnswers = .data [f.tHi, f.tLo, f.tCrc, f.hHi, f.hLo, f.hCrc] :: reads) :
    core.run (k + 4) s = core.run k (frameReceived h d f writes times reads s) := by
  refine Eq.trans (core_run_succ (step_write_accepted hf hm hp hout hh hmode hw)) <|
    Eq.trans (run_settle (k + 1) hf hm rfl rfl htime hd) <|
    Eq.trans (core_run_succ (step_read_frame hf hm rfl rfl rfl hh hr)) ?_
  simp only [frameReceived, List.append_assoc, List.cons_append, List.nil_append]

end

/-- Settles O41: the request, four steps to the frame, and the decode. -/
theorem readRunsToMeasurement : Obligations.ReadRunsToMeasurement := by
  rintro s h d f x y hosts writes times reads ⟨hphase, htimer⟩ ⟨hf, hout⟩ ho hh hmode hin hw
    htime hd hr hdecode
  have hlegal : isMeasurementMode s.mode = true := (isMeasurementMode_iff s.mode).mpr hmode
  have hframe := run_frameReceived (s := startRead { s with hostIn := hosts }) 1 hf rfl rfl hout
    hh hlegal hw htime hd hr
  obtain ⟨hmeasured, -⟩ := decodePhase
    (frameReceived h d f writes times reads (startRead { s with hostIn := hosts })) hf rfl rfl rfl
  obtain ⟨t, hstep, ht⟩ := hmeasured x y hdecode
  refine ⟨t, ?_, ?_⟩
  · rw [core_run_succ (step_readRequest hf ho hin), hframe, core_run_succ hstep]
    rfl
  · rw [ho, hphase, htimer]
    exact ht

end Sys2Proof.Machine
end

section
/-!
SUPPORT. What every step of a session keeps: the host port and the way out in `Measuring`, the mode,
and the hold of an unanswered call.
-/

namespace Sys2Proof.Machine

/-! ### A step of a `READ` -/

/-- Everything a step in `Measuring` with nothing in flight can do. -/
inductive ReadStep (s : State) : State → Prop where
  | nothing : ReadStep s s
  /-- A call is issued and not answered, in phase `WRITE` or `READ` (R197). -/
  | held (c : XportCall) : ReadStep s (issue c s)
  | accepted (h : Handle) (cmd : Byte) (rest : List Int) :
      ReadStep s (enterSettle { answered (issue (.writeByte h cmd) s) with writeAnswers := rest })
  | rejected (h : Handle) (cmd : Byte) (rest : List Int) :
      ReadStep s (raise .commandError
        { answered (issue (.writeByte h cmd) s) with writeAnswers := rest })
  | settle : ReadStep s (phaseSettle s)
  | failed (c : XportCall) (count : Nat) (xport : Bool) (rest : List ReadAnswer) :
      ReadStep s (raise (.readLength count xport)
        (loseScratch { answered (issue c s) with readAnswers := rest }))
  | received (c : XportCall) (f : RawFrame) (rest : List ReadAnswer) :
      ReadStep s (loadFrame f { answered (issue c s) with readAnswers := rest })
  | decoded : ReadStep s (decodeAndReport s)

/-- In `Measuring` the only instruction that does anything is the trigger of phase `WRITE`. -/
theorem Effect.readStep {i : Instr} {s t : State} (hm : s.state = .measuring)
    (h : Effect s i t) : ReadStep s t := by
  cases h with
  | notAccepted => exact .nothing
  | triggerHeld => exact .held _
  | trigger _ cmd hd _ rest =>
    dsimp only
    split_ifs
    · exact .accepted hd cmd rest
    · exact .rejected hd cmd rest
  | misuse _ hne | crc8 _ hne | decode _ _ _ _ _ _ hne => exact absurd hm hne
  | openHeld _ _ _ hs | openError _ _ _ _ hs | opened _ _ _ _ _ hs | softResetHeld _ _ _ hs
    | softReset _ _ _ _ _ hs | readStarts hs | modeSet _ hs | closedAlready hs | closeHeld _ hs
    | closed _ _ hs => cases hm.symm.trans hs

/-- The inversion of `step` in `Measuring`. -/
theorem StepEffect.readStep {s t : State} (hm : s.state = .measuring) (hf : s.inFlight = none)
    (h : StepEffect s t) : ReadStep s t := by
  cases h with
  | resumed _ _ hi => cases hf.symm.trans hi
  | requested _ _ _ _ hne | reserved _ _ _ hne => exact absurd hm hne
  | nothing => exact .nothing
  | commanded _ _ _ _ _ _ heffect => exact heffect.readStep hm
  | settle => exact .settle
  | readHeld => exact .held _
  | readFailed => exact .failed _ _ _ _
  | readDone => exact .received _ _ _
  | decoded => exact .decoded

/-! ### Nothing is accepted in `Measuring` -/

theorem exec_host_measuring {s : State} {i : Instr} (hm : s.state = .measuring)
    (hi : i.isHost = true) : exec i s = .next s := by
  obtain ⟨hsreset, hread, hclose, hopen, hsetmode, hcrc, hdecode⟩ := exec_measuring_cases hm
  cases i with
  | hostOpen bus addr mode => exact hopen bus addr mode
  | hostSreset => exact hsreset
  | hostRead => exact hread
  | hostSetmode m => exact hsetmode m
  | hostClose => exact hclose
  | hostCrc8 data => exact hcrc data
  | hostDecode f0 f1 f2 f3 f4 f5 => exact hdecode f0 f1 f2 f3 f4 f5
  | _ => cases hi

/-- Phase `SETTLE` changes neither `STATE` nor the mode, and takes no request (R186). -/
theorem phaseSettle_kept (s : State) :
    (phaseSettle s).state = s.state ∧ (phaseSettle s).mode = s.mode ∧
      (phaseSettle s).hostIn = s.hostIn := by
  unfold phaseSettle
  dsimp only
  split_ifs
  · exact ⟨rfl, rfl, rfl⟩
  · split <;> exact ⟨rfl, rfl, rfl⟩

theorem ReadStep.hostIn {s t : State} (h : ReadStep s t) : t.hostIn = s.hostIn := by
  cases h with
  | settle =>
    obtain ⟨-, -, hkept⟩ := phaseSettle_kept s
    exact hkept
  | decoded => exact decodeAndReport_hostIn s
  | _ => rfl

/-- Settles O45: each host operation checks `STATE` first, and no phase looks at the host port. -/
theorem measuringAcceptsNothing : Obligations.MeasuringAcceptsNothing :=
  ⟨fun _ _ hm hi => exec_host_measuring hm hi,
    fun _ _ hm hf h => ((step_effect h).readStep hm hf).hostIn⟩

/-! ### The way out of `Measuring` -/

/-- `t` is how a `READ` in progress in `s` ends (R189). -/
def State.ReadEnds (s t : State) : Prop :=
  t.state = .opened ∧ t.phase = .idle ∧ t.handle = s.handle ∧ t.mode = s.mode ∧
    (t.valid = true ↔ t.status = .ok)

theorem Raised.status_ne_ok (e : Raised) : e.status ≠ .ok := by
  cases e <;> simp [Raised.status]

/-- An error ends a `READ` with `VALID` still cleared (R30, R184). -/
theorem raise_readEnds {s u : State} (e : Raised) (hm : u.state = .measuring)
    (hv : u.valid = false) (hhandle : u.handle = s.handle := by rfl)
    (hmode : u.mode = s.mode := by rfl) : s.ReadEnds (raise e u) := by
  rw [raise_eq_ended_of_measuring e hm]
  exact ⟨rfl, rfl, hhandle, hmode, by simp [State.ended, hv, e.status_ne_ok]⟩

/-- A decode sets `VALID` exactly when it ends `OK` (R160). -/
theorem decodeAndReport_readEnds {s : State} (hm : s.state = .measuring)
    (hv : s.valid = false) : s.ReadEnds (decodeAndReport s) := by
  rcases decodeAndReport_cases s with ⟨x, y, h⟩ | ⟨field, e, a, h⟩
  · rw [decodeAndReport_measurement_eq_ended h, leaveMeasuring_of_measuring hm]
    exact ⟨rfl, rfl, rfl, rfl, iff_of_true rfl rfl⟩
  · rw [decodeAndReport_mismatch_eq_ended h, leaveMeasuring_of_measuring hm]
    exact ⟨rfl, rfl, rfl, rfl, by simp [State.ended, State.scratchOf, hv]⟩

theorem ReadStep.readEnds {s t : State} (hm : s.state = .measuring) (hv : s.valid = false)
    (h : ReadStep s t) (hleft : t.state ≠ .measuring) : s.ReadEnds t := by
  cases h with
  | nothing | held | accepted | received => exact absurd hm hleft
  | settle => exact absurd ((phaseSettle_kept s).1.trans hm) hleft
  | rejected | failed => exact raise_readEnds _ hm hv
  | decoded => exact decodeAndReport_readEnds hm hv

/-- Settles O50: a `READ` ends with an error or with the decode. -/
theorem leavingMeasuring : Obligations.LeavingMeasuring :=
  fun _ _ hs hk hm h hleft =>
    ((step_effect h).readStep hm (hk.inFlight_measuring hm)).readEnds hm
      (hs.measuring_not_valid hm) hleft

/-! ### The mode -/

theorem ReadStep.mode {s t : State} (h : ReadStep s t) : t.mode = s.mode := by
  cases h with
  | settle =>
    obtain ⟨-, hkept, -⟩ := phaseSettle_kept s
    exact hkept
  | decoded => exact decodeAndReport_mode s
  | _ => rfl

/-- `i`, run in `s`, is the `OPEN` or the `SETMODE` that ended in `t` with its own mode (R182,
R190). -/
def SetsMode (i : Instr) (s t : State) : Prop :=
  t.status = .ok ∧ isMeasurementMode t.mode = true ∧
    ((∃ bus addr, i = .hostOpen bus addr t.mode ∧ s.state = .closed) ∨
      (i = .hostSetmode t.mode ∧ s.state = .opened))

theorem Effect.mode_kept_or_set {i : Instr} {s t : State} (h : Effect s i t) :
    t.mode = s.mode ∨ SetsMode i s t := by
  cases h with
  | opened bus addr _ _ _ hc hm => exact .inr ⟨rfl, hm, .inl ⟨bus, addr, rfl, hc⟩⟩
  | modeSet _ ho hm => exact .inr ⟨rfl, hm, .inr ⟨rfl, ho⟩⟩
  | softReset | trigger =>
    dsimp only
    split_ifs <;> exact .inl rfl
  | crc8 =>
    rw [crcFold_eq]
    exact .inl rfl
  | decode => exact .inl (decodeAndReport_mode _)
  | _ => exact .inl rfl

/-- A step that changes the mode runs the instruction that sets it: between operations the one
fetched, and in `Measuring` there is none. -/
theorem StepEffect.mode_kept_or_set {s t : State} (h : StepEffect s t) :
    t.mode = s.mode ∨ ∃ i u, fetch s = .instr i u ∧ SetsMode i u t := by
  by_cases hread : s.state = .measuring ∧ s.inFlight = none
  · obtain ⟨hm, hf⟩ := hread
    exact .inl (h.readStep hm hf).mode
  cases h with
  | resumed i _ hf heffect =>
    exact heffect.mode_kept_or_set.imp_right fun hset => ⟨i, s, fetch_inFlight hf, hset⟩
  | requested i rest _ hf hm hd heffect =>
    exact heffect.mode_kept_or_set.imp_right fun hset =>
      ⟨i, { s with hostIn := rest }, fetch_request hf hm hd, hset⟩
  | reserved | nothing => exact .inl rfl
  | commanded _ _ hf hm | settle hf hm | readHeld _ hf hm | readFailed _ _ _ _ _ hf hm
    | readDone _ _ _ _ hf hm | decoded hf hm => exact absurd ⟨hm, hf⟩ hread

/-- Settles O46: a step that changes the mode runs an `OPEN` or a `SETMODE` that has succeeded. -/
theorem modePersists : Obligations.ModePersists := by
  intro s t h hchanged
  obtain ⟨i, u, hfetch, hok, hlegal, hset⟩ :=
    (step_effect h).mode_kept_or_set.resolve_left hchanged
  refine ⟨hok, hlegal, u, ?_⟩
  rcases hset with ⟨bus, addr, rfl, hc⟩ | ⟨rfl, ho⟩
  · exact .inl ⟨bus, addr, hfetch, hc⟩
  · exact .inr ⟨hfetch, ho⟩

/-! ### The hold -/

/-- A call that is outstanding already is not issued again (R65). -/
theorem issue_eq_self {c : XportCall} {s : State} (h : s.outstanding = some c) :
    issue c s = s := by
  rw [issue, if_pos h, ← h]

theorem hold_eq_self {i : Instr} {s : State} (h : s.inFlight = some i) : hold i s = s := by
  rw [hold, ← h]

theorem State.Inv.measuring {s : State} (hs : s.Inv) (h : s.phase ≠ .idle) :
    s.state = .measuring :=
  not_not.mp (mt hs.phase_idle_iff.mpr h)

/-- A step that finds no answer to the outstanding call issues and holds what is issued and held
already. -/
theorem step_of_waiting {s : State} (hs : s.Inv) (hwaiting : s.Waiting)
    (ha : s.openAnswers = []) (hw : s.writeAnswers = []) (hr : s.readAnswers = [])
    (hc : s.closeAnswers = 0) : step s = .next s := by
  rcases hwaiting with ⟨bus, addr, mode, hst, hlegal, hf, hout⟩ | ⟨h, hst, hh, hf, hout⟩ |
    ⟨h, hst, hh, hf, hout⟩ | ⟨h, hp, hh, hf, hout⟩ | ⟨h, hp, hh, hf, hout⟩
  · rw [stepResumesInFlight s _ hf, exec_hostOpen_held hst hlegal ha, issue_eq_self hout,
      hold_eq_self hf]
  · rw [stepResumesInFlight s _ hf, exec_softReset (.inr rfl) hst, writeSoftReset_held hh hw,
      issue_eq_self (c := .writeByte h Config.params.softReset) hout, hold_eq_self hf]
  · rw [stepResumesInFlight s _ hf, exec_hostClose_held hst hh hc, issue_eq_self hout,
      hold_eq_self hf]
  · have hm : s.state = .measuring := hs.measuring (by simp [hp])
    obtain ⟨i, hcmd, hi, he⟩ :=
      exists_command_of_legal ((isMeasurementMode_iff s.mode).mpr hs.mode_legal)
    rw [stepRunsCommandInMode s i hf hm hp hcmd, exec_measurement hi he,
      writeMeasurement_held hm hp hh hw, issue_eq_self hout]
  · rw [step_read hf (hs.measuring (by simp [hp])) hp, phaseRead_held hh hr,
      issue_eq_self (c := .readBytes h Config.params.frameLen) hout]

/-- Settles O52, by induction on the number of steps. -/
theorem unansweredCallHoldsForEver : Obligations.UnansweredCallHoldsForEver := by
  intro s k hs hwaiting ha hw hr hc
  induction k with
  | zero => rfl
  | succ k ih => rw [core_run_succ (step_of_waiting hs hwaiting ha hw hr hc), ih]

end Sys2Proof.Machine
end

section
/-!
SUPPORT. The errors of 60_exceptions.md: an operation refused with `ProgrammingError` asks nothing of
the transport, and neither fault of the machine stands in a state that meets the invariants of R37.
-/

namespace Sys2Proof.Machine

/-! ### Misuse and the transport -/

/-- From `s` to `t` no transport call has been issued and no answer consumed. -/
def State.TransportUntouched (s t : State) : Prop :=
  t.trace = s.trace ∧ t.openAnswers = s.openAnswers ∧ t.writeAnswers = s.writeAnswers ∧
    t.readAnswers = s.readAnswers ∧ t.closeAnswers = s.closeAnswers

theorem Instr.not_isMeasurement_of_isHost {i : Instr} (h : i.isHost = true) :
    i.isMeasurement = false := by
  cases i with
  | hostOpen | hostSreset | hostRead | hostSetmode | hostClose | hostCrc8 | hostDecode => rfl
  | _ => cases h

/-- A host operation that calls the transport waits for its answer or ends with another status than
`ProgrammingError`; the misuse checks come before the call (R257). -/
theorem Effect.transportUntouched {i : Instr} {s t : State} (hi : i.isHost = true)
    (h : Effect s i t) (hstatus : t.status = .programmingError) (hout : t.outstanding = none) :
    s.TransportUntouched t := by
  cases h with
  | notAccepted | misuse | readStarts | modeSet | closedAlready => exact ⟨rfl, rfl, rfl, rfl, rfl⟩
  | crc8 =>
    rw [crcFold_eq]
    exact ⟨rfl, rfl, rfl, rfl, rfl⟩
  | decode =>
    exact ⟨decodeAndReport_trace _, decodeAndReport_openAnswers _, decodeAndReport_writeAnswers _,
      decodeAndReport_readAnswers _, decodeAndReport_closeAnswers _⟩
  | openHeld | softResetHeld | closeHeld => cases hout
  | openError | opened | closed => cases hstatus
  | softReset =>
    dsimp only at hstatus
    split_ifs at hstatus <;> cases hstatus
  | triggerHeld _ _ _ hm | trigger _ _ _ _ _ hm =>
    rw [Instr.not_isMeasurement_of_isHost hi] at hm
    cases hm

/-- Settles O49: every operation that touches the transport holds or ends with another status. -/
theorem programmingErrorTouchesNoTransport : Obligations.ProgrammingErrorTouchesNoTransport :=
  fun _ _ _ hi h hstatus hout => (exec_effect h).transportUntouched hi hstatus hout

/-! ### No instruction stops the machine

The meanings that hand `HANDLE` to the transport find one: outside `Closed` it is held (R37 a). -/

theorem State.Inv.exists_handle {s : State} (hs : s.Inv) (h : s.state ≠ .closed) :
    ∃ hd, s.handle = some hd :=
  Option.ne_none_iff_exists'.mp (mt hs.handle_none_iff_closed.mp h)

theorem writeSoftReset_next {s : State} {h : Handle} (hh : s.handle = some h) :
    ∃ t, writeSoftReset s = .next t := by
  cases hw : s.writeAnswers with
  | nil => exact ⟨_, writeSoftReset_held hh hw⟩
  | cons => exact ⟨_, writeSoftReset_answered hh hw⟩

theorem exec_hostClose_next {s : State} {h : Handle} (ho : s.state = .opened)
    (hh : s.handle = some h) : ∃ t, exec .hostClose s = .next t := by
  cases hc : s.closeAnswers with
  | zero => exact ⟨_, exec_hostClose_held ho hh hc⟩
  | succ => exact ⟨_, exec_hostClose_answered ho hh hc⟩

theorem exec_hostOpen_next {s : State} (bus addr mode : Byte) (hc : s.state = .closed) :
    ∃ t, exec (.hostOpen bus addr mode) s = .next t := by
  by_cases hm : isMeasurementMode mode = true
  · rcases ha : s.openAnswers with _ | ⟨_ | _, _⟩
    · exact ⟨_, exec_hostOpen_held hc hm ha⟩
    · exact ⟨_, exec_hostOpen_error hc hm ha⟩
    · exact ⟨_, exec_hostOpen_handle hc hm ha⟩
  · exact ⟨_, exec_hostOpen_illegal hc hm⟩

theorem exec_host_closed_next {i : Instr} {s : State} (hi : i.isHost = true)
    (hc : s.state = .closed) : ∃ t, exec i s = .next t := by
  have hm : s.state ≠ .measuring := by simp [hc]
  cases i with
  | hostOpen bus addr mode => exact exec_hostOpen_next bus addr mode hc
  | hostSreset => exact ⟨_, exec_sessionOperation_closed hc (.inl rfl)⟩
  | hostRead => exact ⟨_, exec_sessionOperation_closed hc (.inr (.inl rfl))⟩
  | hostSetmode => exact ⟨_, exec_hostSetmode_closed hc⟩
  | hostClose => exact ⟨_, exec_hostClose_closed hc⟩
  | hostCrc8 data => exact ⟨_, exec_hostCrc8 data hm⟩
  | hostDecode f0 f1 f2 f3 f4 f5 => exact ⟨_, exec_hostDecode f0 f1 f2 f3 f4 f5 hm⟩
  | _ => cases hi

theorem exec_host_opened_next {i : Instr} {s : State} {h : Handle} (hi : i.isHost = true)
    (ho : s.state = .opened) (hh : s.handle = some h) : ∃ t, exec i s = .next t := by
  have hm : s.state ≠ .measuring := by simp [ho]
  cases i with
  | hostOpen => exact ⟨_, exec_hostOpen_opened ho⟩
  | hostSreset =>
    rw [exec_softReset (.inl rfl) ho]
    exact writeSoftReset_next hh
  | hostRead => exact ⟨_, exec_hostRead_opened ho⟩
  | hostSetmode m =>
    by_cases hlegal : isMeasurementMode m = true
    · exact ⟨_, exec_hostSetmode_legal ho hlegal⟩
    · exact ⟨_, exec_hostSetmode_illegal ho hlegal⟩
  | hostClose => exact exec_hostClose_next ho hh
  | hostCrc8 data => exact ⟨_, exec_hostCrc8 data hm⟩
  | hostDecode f0 f1 f2 f3 f4 f5 => exact ⟨_, exec_hostDecode f0 f1 f2 f3 f4 f5 hm⟩
  | _ => cases hi

theorem exec_host_next {i : Instr} {s : State} (hs : s.Inv) (hi : i.isHost = true) :
    ∃ t, exec i s = .next t := by
  cases hstate : s.state with
  | closed => exact exec_host_closed_next hi hstate
  | opened =>
    obtain ⟨h, hh⟩ := hs.exists_handle (by simp [hstate])
    exact exec_host_opened_next hi hstate hh
  | measuring => exact ⟨_, exec_host_measuring hstate hi⟩

theorem exec_cmdSoftReset_next {s : State} (hs : s.Inv) : ∃ t, exec .cmdSoftReset s = .next t := by
  cases hstate : s.state with
  | closed => exact ⟨_, execCmdSoftReset_closed hstate⟩
  | opened =>
    obtain ⟨h, hh⟩ := hs.exists_handle (by simp [hstate])
    rw [exec_softReset (.inr rfl) hstate]
    exact writeSoftReset_next hh
  | measuring => exact ⟨s, by simp [exec, execCmdSoftReset, hstate]⟩

theorem writeMeasurement_next {s : State} (cmd : Byte) (hs : s.Inv) :
    ∃ t, writeMeasurement cmd s = .next t := by
  by_cases hm : s.state = .measuring
  · by_cases hp : s.phase = .write
    · obtain ⟨h, hh⟩ := hs.exists_handle (by simp [hm])
      cases hw : s.writeAnswers with
      | nil => exact ⟨_, writeMeasurement_held hm hp hh hw⟩
      | cons => exact ⟨_, writeMeasurement_answered hm hp hh hw⟩
    · exact ⟨s, by simp [writeMeasurement, hm, hp]⟩
  · exact ⟨_, writeMeasurement_elsewhere hm⟩

/-- An instruction is a measurement command, a host operation or the soft reset command. -/
theorem exec_next {s : State} (i : Instr) (hs : s.Inv) : ∃ t, exec i s = .next t := by
  by_cases hm : i.isMeasurement = true
  · obtain ⟨cmd, he, -⟩ := encode_measurement hm
    rw [exec_measurement hm he]
    exact writeMeasurement_next cmd hs
  by_cases hi : i.isHost = true
  · exact exec_host_next hs hi
  cases i with
  | cmdSoftReset => exact exec_cmdSoftReset_next hs
  | hostOpen | hostSreset | hostRead | hostSetmode | hostClose | hostCrc8 | hostDecode =>
    exact absurd rfl hi
  | _ => exact absurd rfl hm

/-! ### No step stops the machine -/

theorem phaseRead_next {s : State} {h : Handle} (hh : s.handle = some h) :
    ∃ t, phaseRead s = .next t := by
  cases hr : s.readAnswers with
  | nil => exact ⟨_, phaseRead_held hh hr⟩
  | cons a =>
    cases a with
    | error => exact ⟨_, phaseRead_error hh hr⟩
    | data => exact ⟨_, phaseRead_data hh hr⟩

/-- A step of a `READ`: phase `WRITE` finds a command, as `MODE` holds a legal mode (R37), and phase
`READ` a handle. -/
theorem step_measuring_next {s : State} (hs : s.Inv) (hf : s.inFlight = none)
    (hm : s.state = .measuring) : ∃ t, step s = .next t := by
  cases hp : s.phase with
  | idle => exact absurd hm (hs.phase_idle_iff.mp hp)
  | write =>
    obtain ⟨i, hcmd, -⟩ := exists_command_of_legal ((isMeasurementMode_iff s.mode).mpr hs.mode_legal)
    rw [stepRunsCommandInMode s i hf hm hp hcmd]
    exact exec_next i hs
  | settle => exact ⟨_, step_settle hf hm hp⟩
  | read =>
    obtain ⟨h, hh⟩ := hs.exists_handle (by simp [hm])
    rw [step_read hf hm hp]
    exact phaseRead_next hh
  | decode => exact ⟨_, step_decode hf hm hp⟩

/-- A step at the host port. -/
theorem step_host_next {s : State} (hs : s.Inv) (hf : s.inFlight = none)
    (hm : s.state ≠ .measuring) : ∃ t, step s = .next t := by
  cases hd : decodeHost s.hostIn with
  | instr i rest =>
    rw [stepRunsHostRequest s i rest hf hm hd]
    exact exec_next i hs.congr
  | reserved op rest =>
    exact ⟨raise .programming { s with hostIn := rest },
      by rw [step, fetch_host hf hm, fetchHost, hd]⟩
  | incomplete => exact ⟨s, by rw [step, fetch_host hf hm, fetchHost, hd]⟩

/-- Settles O53: the operation in flight, a phase of a `READ` and the host port each go on. -/
theorem noStopFromInvariantStates : Obligations.NoStopFromInvariantStates := by
  intro s hs
  cases hf : s.inFlight with
  | some i =>
    rw [stepResumesInFlight s i hf]
    exact exec_next i hs
  | none =>
    by_cases hm : s.state = .measuring
    · exact step_measuring_next hs hf hm
    · exact step_host_next hs hf hm

end Sys2Proof.Machine
end
